-- ==== Sys2Proof/Word.lean ====
section
/-! DEFINITION. The word types of the block: bytes, register-store addresses, command words and output samples. -/

namespace Sys2Proof

/-- One byte of the register store (R60: one byte per address). -/
abbrev Byte := BitVec 8

/-- A 16-bit register-store address (R60). -/
abbrev Addr := BitVec 16

/-- A 32-bit command word: one serialised port transfer (R91). -/
abbrev CommandWord := BitVec 32

/-- One output sample: signed 16-bit two's complement, read with `toInt` (R12). -/
abbrev Sample := BitVec 16

end Sys2Proof
end

