-- ==== Sys2Proof/Config.lean ====
section
/-! DEFINITION. What is fixed for a machine: the parameter record of R7, the free contents of the register store at
reset (`REG_INIT`) and the register map of R40. The parameters' values for this hardware stand in Machine/Params.lean. -/

namespace Sys2Proof

/-- The implementation parameters of R7, under the spec's names.
`MIX_ATTEN` is left out: it belongs to the external mixer and no rule depends on it (R262, D29). -/
structure Config where
  /-- `SR`: output samples per second, an integer of at least 1. -/
  sr : Nat
  /-- `MIN`: the silence floor. -/
  minSample : Int
  /-- `MAXP`: the largest positive sample. -/
  maxPositive : Nat
  /-- `W_UNIT`: channel-3 scale per nibble step. -/
  waveUnit : Nat
  /-- `INDEF_MS`: the "play indefinitely" sentinel in milliseconds. -/
  indefMs : Nat
  /-- `SWEEP_BIAS`: subtracted from `sweep_step` to give the sweep divisor's exponent. -/
  sweepBias : Nat
  /-- `CH3_LEN_BITS`: the width of channel 3's length field. -/
  ch3LenBits : Nat
  deriving DecidableEq, Repr

/-- `REG_INIT` (R7, R46, R62, R272): the byte each address of the register store holds at reset. The spec leaves it open
("any bytes", "A model must not assume zero"), so it has no body and no proof can see a value of it. Notes, log entry 3. -/
opaque Config.regInit : Addr → Byte

/-! The register map (R40, R68), addresses by register name. -/

namespace Reg

abbrev ch1Sweep : Addr := 0xFF10#16
abbrev ch1Duty : Addr := 0xFF11#16
abbrev ch1Env : Addr := 0xFF12#16
abbrev ch1Flo : Addr := 0xFF13#16
abbrev ch1Fhi : Addr := 0xFF14#16
abbrev ch2Duty : Addr := 0xFF16#16
abbrev ch2Env : Addr := 0xFF17#16
abbrev ch2Flo : Addr := 0xFF18#16
abbrev ch2Fhi : Addr := 0xFF19#16
abbrev ch3On : Addr := 0xFF1A#16
abbrev ch3Len : Addr := 0xFF1B#16
abbrev ch3Level : Addr := 0xFF1C#16
abbrev ch3Flo : Addr := 0xFF1D#16
abbrev ch3Fhi : Addr := 0xFF1E#16
abbrev outSel : Addr := 0xFF25#16

/-- `WAVE_BASE`: the address of `WAVE[0]`; the table's sixteen bytes follow it (R40, R227). -/
abbrev waveBase : Addr := 0xFF30#16

/-- The fifteen named one-byte registers (R40, R68), `CH3_ON` among them though no rule reads it. -/
def named : List Addr :=
  [ch1Sweep, ch1Duty, ch1Env, ch1Flo, ch1Fhi, ch2Duty, ch2Env, ch2Flo, ch2Fhi,
   ch3On, ch3Len, ch3Level, ch3Flo, ch3Fhi, outSel]

/-- An address of `WAVE[0..15]`, 0xFF30 to 0xFF3F (R40). -/
def isWave (a : Addr) : Bool := a.extractLsb' 4 12 == 0xFF3#12

/-- An address of the map of R40: a named register or a byte of the wave table. -/
def isMapped (a : Addr) : Bool := named.contains a || isWave a

end Reg

end Sys2Proof
end

