-- ==== Sys2Proof/Machine/Params.lean ====
section
/-! DEFINITION. The values R7 gives the parameters for this hardware. They stand here, under Machine/, because the spec
calls several of them unaudited (93 U3) and this is the one place to change. -/

namespace Sys2Proof.Machine

/-- This hardware's parameters (R7). -/
def psg : Config where
  sr := 44100
  minSample := -32768
  maxPositive := 32767
  waveUnit := 4369
  indefMs := 5000
  sweepBias := 1
  ch3LenBits := 8

end Sys2Proof.Machine
end

