-- ==== Sys2Proof/Syntax.lean ====
section
/-! DEFINITION. The operations of the block, one constructor per row of spec/opcode_table.json (R6, R120). -/

namespace Sys2Proof

/-- The operations: the three port operations `WR`, `POLL`, `GEN` (R90 to R94), a `WR` split by the register it names as
the table splits it, and the sub-operations that `POLL` decodes into (R96). -/
inductive Instr where
  /-- `WR CH1_SWEEP, data` (NR10, R100). -/
  | wrCh1Sweep (data : Byte)
  /-- `WR CH1_DUTY, data` (NR11, R101). -/
  | wrCh1Duty (data : Byte)
  /-- `WR CH1_ENV, data` (NR12, R103). -/
  | wrCh1Env (data : Byte)
  /-- `WR CH1_FLO, data` (NR13, R104). -/
  | wrCh1Flo (data : Byte)
  /-- `WR CH1_FHI, data` (NR14, R105). -/
  | wrCh1Fhi (data : Byte)
  /-- `WR CH2_DUTY, data` (NR21, R106). -/
  | wrCh2Duty (data : Byte)
  /-- `WR CH2_ENV, data` (NR22, R107). -/
  | wrCh2Env (data : Byte)
  /-- `WR CH2_FLO, data` (NR23, R108). -/
  | wrCh2Flo (data : Byte)
  /-- `WR CH2_FHI, data` (NR24, R109). -/
  | wrCh2Fhi (data : Byte)
  /-- `WR CH3_ON, data` (NR30, R116: stored, read by no rule). -/
  | wrCh3On (data : Byte)
  /-- `WR CH3_LEN, data` (NR31, R110). -/
  | wrCh3Len (data : Byte)
  /-- `WR CH3_LEVEL, data` (NR32, R111). -/
  | wrCh3Level (data : Byte)
  /-- `WR CH3_FLO, data` (NR33, R112). -/
  | wrCh3Flo (data : Byte)
  /-- `WR CH3_FHI, data` (NR34, R113). -/
  | wrCh3Fhi (data : Byte)
  /-- `WR OUT_SEL, data` (NR51, R114). -/
  | wrOutSel (data : Byte)
  /-- `WR WAVE[j], data` (R115). -/
  | wrWave (j : BitVec 4) (data : Byte)
  /-- `WR addr, data` for an address outside the map of R40 (R64). -/
  | wrOther (addr : Addr) (data : Byte)
  /-- `POLL` (R93, R131, R132). -/
  | poll
  /-- `GEN n`: `n` samples of all three channels (R94, R181). -/
  | gen (n : BitVec 16)
  /-- `GEN1 n` (R195). -/
  | gen1 (n : BitVec 16)
  /-- `GEN2 n` (R196). -/
  | gen2 (n : BitVec 16)
  /-- `GEN3 n` (R229). -/
  | gen3 (n : BitVec 16)
  /-- Sub-operation of `POLL` at 0xFF10 (R170). -/
  | live1Sweep
  /-- Sub-operation of `POLL` at 0xFF11 (R171). -/
  | live1Duty
  /-- Sub-operation of `POLL` at 0xFF12 (R172). -/
  | live1Env
  /-- Sub-operation of `POLL` at 0xFF13 (R173). -/
  | live1Flo
  /-- Sub-operation of `POLL` at 0xFF14 (R160). -/
  | trig1
  /-- Sub-operation of `POLL` at 0xFF19 (R161). -/
  | trig2
  /-- Sub-operation of `POLL` at 0xFF1E (R162). -/
  | trig3
  /-- Sub-operation of `POLL` at any other address (R139). -/
  | noroute
  deriving DecidableEq, Repr

/-- The row of spec/opcode_table.json an operation belongs to, by the row's mnemonic. -/
def Instr.mnemonic : Instr → String
  | .wrCh1Sweep _ => "WR.CH1_SWEEP"
  | .wrCh1Duty _ => "WR.CH1_DUTY"
  | .wrCh1Env _ => "WR.CH1_ENV"
  | .wrCh1Flo _ => "WR.CH1_FLO"
  | .wrCh1Fhi _ => "WR.CH1_FHI"
  | .wrCh2Duty _ => "WR.CH2_DUTY"
  | .wrCh2Env _ => "WR.CH2_ENV"
  | .wrCh2Flo _ => "WR.CH2_FLO"
  | .wrCh2Fhi _ => "WR.CH2_FHI"
  | .wrCh3On _ => "WR.CH3_ON"
  | .wrCh3Len _ => "WR.CH3_LEN"
  | .wrCh3Level _ => "WR.CH3_LEVEL"
  | .wrCh3Flo _ => "WR.CH3_FLO"
  | .wrCh3Fhi _ => "WR.CH3_FHI"
  | .wrOutSel _ => "WR.OUT_SEL"
  | .wrWave _ _ => "WR.WAVE"
  | .wrOther _ _ => "WR.OTHER"
  | .poll => "POLL"
  | .gen _ => "GEN"
  | .gen1 _ => "GEN1"
  | .gen2 _ => "GEN2"
  | .gen3 _ => "GEN3"
  | .live1Sweep => "LIVE1.SWEEP"
  | .live1Duty => "LIVE1.DUTY"
  | .live1Env => "LIVE1.ENV"
  | .live1Flo => "LIVE1.FLO"
  | .trig1 => "TRIG1"
  | .trig2 => "TRIG2"
  | .trig3 => "TRIG3"
  | .noroute => "NOROUTE"

end Sys2Proof
end

