-- ==== Sys2Proof/WellFormed.lean ====
section
/-! DEFINITION. Well-formed operations: operand widths are in the types; what is left to check is that the catch-all
`WR.OTHER` does not name an address that an earlier row of the table matches (R120: the first matching row applies). -/

namespace Sys2Proof

/-- The operations that some command word or dispatch address decodes to. -/
def Instr.wellFormed : Instr → Bool
  | .wrOther addr _ => !Reg.isMapped addr
  | .wrCh1Sweep _ | .wrCh1Duty _ | .wrCh1Env _ | .wrCh1Flo _ | .wrCh1Fhi _ => true
  | .wrCh2Duty _ | .wrCh2Env _ | .wrCh2Flo _ | .wrCh2Fhi _ => true
  | .wrCh3On _ | .wrCh3Len _ | .wrCh3Level _ | .wrCh3Flo _ | .wrCh3Fhi _ => true
  | .wrOutSel _ | .wrWave _ _ => true
  | .poll | .gen _ | .gen1 _ | .gen2 _ | .gen3 _ => true
  | .live1Sweep | .live1Duty | .live1Env | .live1Flo => true
  | .trig1 | .trig2 | .trig3 | .noroute => true

/-- `Instr.wellFormed` as a proposition. -/
abbrev WellFormed (i : Instr) : Prop := i.wellFormed = true

end Sys2Proof
end

