-- ==== Sys2Proof/Decode.lean ====
section
/-! DEFINITION. Decoding: a 32-bit command word (R91 to R95) or a 16-bit dispatch address (R96) to an operation, and the
encoder back. A word that names no port transfer is rejected by name (R95). -/

namespace Sys2Proof

/-- What the decoders read: a command word on the ports (formats W, P, G) or the address in the pending-update slot that
`POLL` decodes (format D, R120). -/
inductive CodeWord where
  | command (w : CommandWord)
  | dispatch (a : Addr)
  deriving DecidableEq, Repr

/-- Why a word is no operation (R95). -/
inductive DecodeError where
  /-- `w[31:30] = 11`. -/
  | reservedKind
  /-- A must-be-zero field of the word's format is not zero. -/
  | nonZeroField
  /-- Neither two nor four bytes: no word of any format (R118). -/
  | badLength
  deriving DecidableEq, Repr

/-! Fields of a command word (R91, R92, R94). -/

/-- `w[31:30]`, the kind. -/
def kindField (w : CommandWord) : BitVec 2 := w.extractLsb' 30 2
/-- `w[29:24]`, must be zero in format W. -/
def writeZeroField (w : CommandWord) : BitVec 6 := w.extractLsb' 24 6
/-- `w[23:8]`, the address of format W. -/
def addrField (w : CommandWord) : Addr := w.extractLsb' 8 16
/-- `w[7:0]`, the data byte of format W. -/
def dataField (w : CommandWord) : Byte := w.extractLsb' 0 8
/-- `w[29:0]`, must be zero in format P. -/
def pollZeroField (w : CommandWord) : BitVec 30 := w.extractLsb' 0 30
/-- `w[29:18]`, must be zero in format G. -/
def genZeroField (w : CommandWord) : BitVec 12 := w.extractLsb' 18 12
/-- `w[17:16]`, the channel selector of format G. -/
def channelField (w : CommandWord) : BitVec 2 := w.extractLsb' 16 2
/-- `w[15:0]`, the sample count of format G. -/
def countField (w : CommandWord) : BitVec 16 := w.extractLsb' 0 16

/-- The `WR` row an address selects, in the table's order (R92, R120). -/
def decodeWrite (addr : Addr) (data : Byte) : Instr :=
  if addr = 0xFF10#16 then .wrCh1Sweep data
  else if addr = 0xFF11#16 then .wrCh1Duty data
  else if addr = 0xFF12#16 then .wrCh1Env data
  else if addr = 0xFF13#16 then .wrCh1Flo data
  else if addr = 0xFF14#16 then .wrCh1Fhi data
  else if addr = 0xFF16#16 then .wrCh2Duty data
  else if addr = 0xFF17#16 then .wrCh2Env data
  else if addr = 0xFF18#16 then .wrCh2Flo data
  else if addr = 0xFF19#16 then .wrCh2Fhi data
  else if addr = 0xFF1A#16 then .wrCh3On data
  else if addr = 0xFF1B#16 then .wrCh3Len data
  else if addr = 0xFF1C#16 then .wrCh3Level data
  else if addr = 0xFF1D#16 then .wrCh3Flo data
  else if addr = 0xFF1E#16 then .wrCh3Fhi data
  else if addr = 0xFF25#16 then .wrOutSel data
  else if addr.extractLsb' 4 12 = 0xFF3#12 then .wrWave (addr.extractLsb' 0 4) data
  else .wrOther addr data

/-- The `GEN` row a channel selector picks (R94). -/
def decodeRequest (ch : BitVec 2) (n : BitVec 16) : Instr :=
  if ch = 0#2 then .gen n else if ch = 1#2 then .gen1 n else if ch = 2#2 then .gen2 n else .gen3 n

/-- A command word's port transfer, or why it has none (R91 to R95). -/
def decodeCommand (w : CommandWord) : Except DecodeError Instr :=
  if kindField w = 0#2 then
    if writeZeroField w = 0#6 then .ok (decodeWrite (addrField w) (dataField w)) else .error .nonZeroField
  else if kindField w = 1#2 then
    if pollZeroField w = 0#30 then .ok .poll else .error .nonZeroField
  else if kindField w = 2#2 then
    if genZeroField w = 0#12 then .ok (decodeRequest (channelField w) (countField w)) else .error .nonZeroField
  else .error .reservedKind

/-- The sub-operation `POLL` decodes from `pend_addr`: total, the last row matches everything (R96). -/
def decodeDispatch (a : Addr) : Instr :=
  if a = 0xFF10#16 then .live1Sweep
  else if a = 0xFF11#16 then .live1Duty
  else if a = 0xFF12#16 then .live1Env
  else if a = 0xFF13#16 then .live1Flo
  else if a = 0xFF14#16 then .trig1
  else if a = 0xFF19#16 then .trig2
  else if a = 0xFF1E#16 then .trig3
  else .noroute

/-- The operation a word of either kind stands for. -/
def decode : CodeWord → Except DecodeError Instr
  | .command w => decodeCommand w
  | .dispatch a => .ok (decodeDispatch a)

/-- Decoding of bytes, total: four bytes are a command word and two a dispatch address, the least significant byte first
(the spec gives a word no byte order: log entry 5). -/
def decodeBytes : List Byte → Except DecodeError Instr
  | [b0, b1] => decode (.dispatch (b1 ++ b0))
  | [b0, b1, b2, b3] => decode (.command (b3 ++ b2 ++ b1 ++ b0))
  | _ => .error .badLength

/-- The low `k` bytes of `w`, the least significant first. -/
def bytesOf (w : Nat) : Nat → List Byte
  | 0 => []
  | k + 1 => BitVec.ofNat 8 w :: bytesOf (w / 256) k

/-- What the decoder reads from an opcode-table word of `nbits` bits: rows of 16 bits are dispatch addresses (format D),
longer ones command words (formats W, P, G; R120). -/
def decodeTableWord (nbits w : Nat) : Option Instr :=
  (decodeBytes (bytesOf w (if nbits ≤ 16 then 2 else if nbits ≤ 32 then 4 else 0))).toOption

/-! The encoder, from the formats of R92 to R94 and the dispatch map of R96. -/

/-- `WR addr, data`: `00 000000 addr data` (R92). -/
def writeWord (addr : Addr) (data : Byte) : CommandWord := 0x00#8 ++ addr ++ data

/-- `GEN ch, n`: `10 000000000000 ch n` (R94). -/
def requestWord (ch : BitVec 2) (n : BitVec 16) : CommandWord := 2#2 ++ 0#12 ++ ch ++ n

/-- The word of an operation. `NOROUTE` matches every unrouted address; its word here is the table's own, 0x0000
(log entry 10). -/
def encode : Instr → CodeWord
  | .wrCh1Sweep data => .command (writeWord 0xFF10#16 data)
  | .wrCh1Duty data => .command (writeWord 0xFF11#16 data)
  | .wrCh1Env data => .command (writeWord 0xFF12#16 data)
  | .wrCh1Flo data => .command (writeWord 0xFF13#16 data)
  | .wrCh1Fhi data => .command (writeWord 0xFF14#16 data)
  | .wrCh2Duty data => .command (writeWord 0xFF16#16 data)
  | .wrCh2Env data => .command (writeWord 0xFF17#16 data)
  | .wrCh2Flo data => .command (writeWord 0xFF18#16 data)
  | .wrCh2Fhi data => .command (writeWord 0xFF19#16 data)
  | .wrCh3On data => .command (writeWord 0xFF1A#16 data)
  | .wrCh3Len data => .command (writeWord 0xFF1B#16 data)
  | .wrCh3Level data => .command (writeWord 0xFF1C#16 data)
  | .wrCh3Flo data => .command (writeWord 0xFF1D#16 data)
  | .wrCh3Fhi data => .command (writeWord 0xFF1E#16 data)
  | .wrOutSel data => .command (writeWord 0xFF25#16 data)
  | .wrWave j data => .command (writeWord (0xFF3#12 ++ j) data)
  | .wrOther addr data => .command (writeWord addr data)
  | .poll => .command 0x40000000#32
  | .gen n => .command (requestWord 0#2 n)
  | .gen1 n => .command (requestWord 1#2 n)
  | .gen2 n => .command (requestWord 2#2 n)
  | .gen3 n => .command (requestWord 3#2 n)
  | .live1Sweep => .dispatch 0xFF10#16
  | .live1Duty => .dispatch 0xFF11#16
  | .live1Env => .dispatch 0xFF12#16
  | .live1Flo => .dispatch 0xFF13#16
  | .trig1 => .dispatch 0xFF14#16
  | .trig2 => .dispatch 0xFF19#16
  | .trig3 => .dispatch 0xFF1E#16
  | .noroute => .dispatch 0x0000#16

/-! The table itself (R120), a second transcription that the decoder is held against. -/

/-- A row of spec/opcode_table.json: it matches a word `w` when `w &&& mask = pattern`. -/
structure TableRow (width : Nat) where
  mnemonic : String
  pattern : BitVec width
  mask : BitVec width
  deriving DecidableEq, Repr

/-- The rows of formats W, P and G, in the table's order. -/
def commandTable : List (TableRow 32) :=
  [⟨"WR.CH1_SWEEP", 0x00FF1000#32, 0xFFFFFF00#32⟩,
   ⟨"WR.CH1_DUTY", 0x00FF1100#32, 0xFFFFFF00#32⟩,
   ⟨"WR.CH1_ENV", 0x00FF1200#32, 0xFFFFFF00#32⟩,
   ⟨"WR.CH1_FLO", 0x00FF1300#32, 0xFFFFFF00#32⟩,
   ⟨"WR.CH1_FHI", 0x00FF1400#32, 0xFFFFFF00#32⟩,
   ⟨"WR.CH2_DUTY", 0x00FF1600#32, 0xFFFFFF00#32⟩,
   ⟨"WR.CH2_ENV", 0x00FF1700#32, 0xFFFFFF00#32⟩,
   ⟨"WR.CH2_FLO", 0x00FF1800#32, 0xFFFFFF00#32⟩,
   ⟨"WR.CH2_FHI", 0x00FF1900#32, 0xFFFFFF00#32⟩,
   ⟨"WR.CH3_ON", 0x00FF1A00#32, 0xFFFFFF00#32⟩,
   ⟨"WR.CH3_LEN", 0x00FF1B00#32, 0xFFFFFF00#32⟩,
   ⟨"WR.CH3_LEVEL", 0x00FF1C00#32, 0xFFFFFF00#32⟩,
   ⟨"WR.CH3_FLO", 0x00FF1D00#32, 0xFFFFFF00#32⟩,
   ⟨"WR.CH3_FHI", 0x00FF1E00#32, 0xFFFFFF00#32⟩,
   ⟨"WR.OUT_SEL", 0x00FF2500#32, 0xFFFFFF00#32⟩,
   ⟨"WR.WAVE", 0x00FF3000#32, 0xFFFFF000#32⟩,
   ⟨"WR.OTHER", 0x00000000#32, 0xFF000000#32⟩,
   ⟨"POLL", 0x40000000#32, 0xFFFFFFFF#32⟩,
   ⟨"GEN", 0x80000000#32, 0xFFFF0000#32⟩,
   ⟨"GEN1", 0x80010000#32, 0xFFFF0000#32⟩,
   ⟨"GEN2", 0x80020000#32, 0xFFFF0000#32⟩,
   ⟨"GEN3", 0x80030000#32, 0xFFFF0000#32⟩]

/-- The rows of format D, in the table's order. -/
def dispatchTable : List (TableRow 16) :=
  [⟨"LIVE1.SWEEP", 0xFF10#16, 0xFFFF#16⟩,
   ⟨"LIVE1.DUTY", 0xFF11#16, 0xFFFF#16⟩,
   ⟨"LIVE1.ENV", 0xFF12#16, 0xFFFF#16⟩,
   ⟨"LIVE1.FLO", 0xFF13#16, 0xFFFF#16⟩,
   ⟨"TRIG1", 0xFF14#16, 0xFFFF#16⟩,
   ⟨"TRIG2", 0xFF19#16, 0xFFFF#16⟩,
   ⟨"TRIG3", 0xFF1E#16, 0xFFFF#16⟩,
   ⟨"NOROUTE", 0x0000#16, 0x0000#16⟩]

/-- The mnemonic of the first row that matches (R120). -/
def firstRow {width : Nat} (table : List (TableRow width)) (w : BitVec width) : Option String :=
  (table.find? fun r => w &&& r.mask == r.pattern).map TableRow.mnemonic

end Sys2Proof
end

