-- ==== Sys2Proof/Machine/State.lean ====
section
/-! DEFINITION. The state of the machine as plain data: four channel records, the pending-update slot, the register
store, the three output streams and the commands the agents still have to issue; the state after reset; the reasons a
step can stop. -/

namespace Sys2Proof.Machine

/-- `duration`, as the tagged value R23 allows: the rules only ask whether it is the sentinel and whether it equals a
newly derived value. `finite k` stands for `1000 * k / 256` milliseconds (R155, R222). -/
inductive Duration where
  | zero
  | indefinite
  | finite (k : Nat)
  deriving DecidableEq, Repr

/-- A channel state record (R20 to R35). `frequency` and `wave_step` are functions of `raw_frequency` and are not stored
(R21, R35). -/
structure ChannelState where
  /-- R25. -/
  playing : Bool
  /-- R22: the 11-bit frequency code. -/
  rawFrequency : BitVec 11
  /-- R23. -/
  duration : Duration
  /-- R24: output samples left of the note. -/
  sampleLength : Nat
  /-- R37(a): phase counter in samples. -/
  freqDist : Nat
  /-- R26. -/
  volume : BitVec 4
  /-- R27, in eighths of a period. -/
  dutyStart : BitVec 4
  /-- R27, in eighths of a period. -/
  dutyEnd : BitVec 4
  /-- R28: `false` (0) = decrease, `true` (1) = increase. -/
  envelopeDirection : Bool
  /-- R29. -/
  envelopeStep : BitVec 3
  /-- R30. -/
  envelopeCounter : Nat
  /-- R31: `false` (0) = increase, `true` (1) = decrease. -/
  sweepDirection : Bool
  /-- R32. -/
  sweepStep : BitVec 3
  /-- R33: 0 means no sweep is active. -/
  sweepTime : BitVec 3
  /-- R34. -/
  sweepCounter : Nat
  /-- R35. -/
  waveShift : BitVec 3
  deriving DecidableEq, Repr

/-- A channel record at reset: off, every field 0 (R46). -/
def ChannelState.reset : ChannelState where
  playing := false
  rawFrequency := 0#11
  duration := .zero
  sampleLength := 0
  freqDist := 0
  volume := 0#4
  dutyStart := 0#4
  dutyEnd := 0#4
  envelopeDirection := false
  envelopeStep := 0#3
  envelopeCounter := 0
  sweepDirection := false
  sweepStep := 0#3
  sweepTime := 0#3
  sweepCounter := 0
  waveShift := 0#3

/-- The register store (R60): the bytes that `WR` has stored since reset, by address. An unlisted address holds no stored
byte; a read of it gives its `REG_INIT` byte (R62). -/
abbrev Memory := List Host.Cell

/-- Everything the machine holds. -/
structure State where
  /-- `st[0]`, channel 1 (R20). -/
  st0 : ChannelState
  /-- `st[1]`, channel 2 (R20). -/
  st1 : ChannelState
  /-- `st[2]`, channel 3 (R20). -/
  st2 : ChannelState
  /-- `st[3]`, channel 4, inert (R36). -/
  st3 : ChannelState
  /-- R38: an update is pending. -/
  pend : Bool
  /-- R38: the last written register address. -/
  pendAddr : Addr
  /-- The register store and the wave table (R40, R41, R60). -/
  store : Memory
  /-- What `emit` has appended to the stream of channel 1, oldest sample first (R47, R90; log entry 2). -/
  out1 : List Sample
  /-- The stream of channel 2. -/
  out2 : List Sample
  /-- The stream of channel 3. -/
  out3 : List Sample
  /-- The command words the agents have still to issue, next first, in their one total order (R71, R91; log entry 1). -/
  commands : List CommandWord
  deriving DecidableEq, Repr

/-- The state after engine start-up (R46, R270): every record off, no update pending, no byte stored (every address reads
its `REG_INIT` byte), nothing emitted, no command waiting. -/
def State.reset : State where
  st0 := .reset
  st1 := .reset
  st2 := .reset
  st3 := .reset
  pend := false
  pendAddr := 0#16
  store := []
  out1 := []
  out2 := []
  out3 := []
  commands := []

/-- The faults of the block: none. "The block raises no exception, trap or fault, synchronous or asynchronous" (R240). -/
inductive Fault where
  deriving DecidableEq, Repr

/-- Why a step refuses. -/
inductive Refusal where
  /-- An operation whose meaning is not written; raised by an arm of `exec` only. Safe: the run stops. -/
  | notModelled (mnemonic : String)
  /-- `step` meets a command word that names no port transfer: its kind is reserved or a must-be-zero field is not zero
  (R95), as `why` says. Safe: no port can carry such a word. -/
  | reservedWord (why : DecodeError) (w : CommandWord)
  deriving DecidableEq, Repr

/-- What an operation answers. -/
abbrev Result := Host.Outcome State Fault Refusal

end Sys2Proof.Machine
end

