-- ==== Sys2Proof/Machine/Operands.lean ====
section
/-! DEFINITION. Operand assembly (R97): the fields of the register bytes, bit by bit (R100 to R115), the decode tables of
R154 and R222, and the narrowing of an exact sample value to the 16-bit stream. -/

namespace Sys2Proof.Machine

/-! Square-channel registers. -/

/-- `DUTY[7:6]`, the duty selector (R101). -/
def dutySelector (b : Byte) : BitVec 2 := b.extractLsb' 6 2
/-- `DUTY[5:0]`, `length_bits` (R101). -/
def lengthBits (b : Byte) : BitVec 6 := b.extractLsb' 0 6
/-- `ENV[7:4]`, `volume` (R103). -/
def volumeField (b : Byte) : BitVec 4 := b.extractLsb' 4 4
/-- `ENV[3]`, `envelope_direction` (R103). -/
def envDirectionField (b : Byte) : Bool := b.getLsbD 3
/-- `ENV[2:0]`, `envelope_step` (R103). -/
def envStepField (b : Byte) : BitVec 3 := b.extractLsb' 0 3
/-- `CH1_SWEEP[6:4]`, `sweep_time` (R100). -/
def sweepTimeField (b : Byte) : BitVec 3 := b.extractLsb' 4 3
/-- `CH1_SWEEP[3]`, `sweep_direction` (R100). -/
def sweepDirectionField (b : Byte) : Bool := b.getLsbD 3
/-- `CH1_SWEEP[2:0]`, `sweep_step` (R100). -/
def sweepStepField (b : Byte) : BitVec 3 := b.extractLsb' 0 3

/-! Frequency registers of every channel (R104, R105). -/

/-- `FHI[7]`, the trigger bit. -/
def triggerBit (b : Byte) : Bool := b.getLsbD 7
/-- `FHI[6]`, the "continuous" flag: clear = indefinite, set = finite. -/
def continuousFlag (b : Byte) : Bool := b.getLsbD 6
/-- `{FHI[2:0], FLO[7:0]}`, the 11-bit frequency code (R65, R97). -/
def frequencyCode (fhi flo : Byte) : BitVec 11 := fhi.extractLsb' 0 3 ++ flo
/-- A code with its low eight bits replaced (R173). -/
def replaceLowByte (raw : BitVec 11) (flo : Byte) : BitVec 11 := raw.extractLsb' 8 3 ++ flo

/-! Channel 3. -/

/-- `CH3_LEVEL[6:5]`, the level selector (R111). -/
def levelSelector (b : Byte) : BitVec 2 := b.extractLsb' 5 2
/-- The channel-3 length `L3`: the low `CH3_LEN_BITS` bits of `CH3_LEN`, all eight on this hardware (R110; log entry 8). -/
def ch3Length (cfg : Config) (b : Byte) : Nat := b.toNat % 2 ^ cfg.ch3LenBits
/-- Entry `idx` of the wave table from the byte that holds it: the high nibble for an even index (R65, R227). -/
def nibble (idx : Nat) (b : Byte) : BitVec 4 := if idx % 2 = 0 then b.extractLsb' 4 4 else b.extractLsb' 0 4

/-! Decode tables. -/

/-- `(duty_cycle_start, duty_cycle_end)` of a duty selector (R154). -/
def dutyPair (sel : BitVec 2) : BitVec 4 × BitVec 4 :=
  if sel = 0#2 then (1#4, 2#4) else if sel = 1#2 then (0#4, 2#4) else if sel = 2#2 then (0#4, 4#4) else (2#4, 8#4)

/-- `wave_shift` of a level selector: 00→4, 01→0, 10→1, 11→2 (R222). -/
def shiftOf (sel : BitVec 2) : BitVec 3 :=
  if sel = 0#2 then 4#3 else if sel = 1#2 then 0#3 else if sel = 2#2 then 1#3 else 2#3

/-- The duration of a square channel's registers (R155): the sentinel, or `64 − length_bits` units. -/
def squareDuration (duty fhi : Byte) : Duration :=
  if continuousFlag fhi then .finite (64 - (lengthBits duty).toNat) else .indefinite

/-- The duration of channel 3's registers (R222): the sentinel, or `2^CH3_LEN_BITS − L3` units. -/
def waveDuration (cfg : Config) (len fhi : Byte) : Duration :=
  if continuousFlag fhi then .finite (2 ^ cfg.ch3LenBits - ch3Length cfg len) else .indefinite

/-- `floor(duration * SR / 1000)`, the note's length in samples (R155, R222; the floor is R10's). -/
def Duration.samples (cfg : Config) : Duration → Nat
  | .zero => 0
  | .indefinite => cfg.indefMs * cfg.sr / 1000
  | .finite k => k * cfg.sr / 256

/-- An exact sample value on the 16-bit stream (R12). -/
def toSample (v : Int) : Sample := BitVec.ofInt 16 v

/-- `MIN`, the silence floor (R7). -/
def silence (cfg : Config) : Sample := toSample cfg.minSample

/-- `P = 2048 − raw_frequency`, in 1..2048 (R11). -/
def ChannelState.periodCode (r : ChannelState) : Nat := 2048 - r.rawFrequency.toNat

end Sys2Proof.Machine
end

