-- ==== Sys2Proof/Machine/Flags.lean ====
section
/-! DEFINITION. The one-bit conditions the rules test. The block has no condition codes (R39): its one-bit state is
`playing`, `pend` and the two direction bits, and what stands here decides when `playing` changes and when a square
channel is high. -/

namespace Sys2Proof.Machine

/-- `enabled(c)`: either output-side bit of record `c` is set in `OUT_SEL` (R114, R152). -/
def enabled (outSel : Byte) (c : Nat) : Bool := outSel.getLsbD c || outSel.getLsbD (c + 4)

/-- `fires(c)`: the channel is enabled and the trigger bit is set (R152). -/
def fires (outSel fhi : Byte) (c : Nat) : Bool := enabled outSel c && triggerBit fhi

/-- A finite note has run out when the slot starts (R183, R224). -/
def noteEnded (r : ChannelState) : Bool := r.sampleLength == 0 && r.duration != .indefinite

/-- The amount of a sweep adjustment (R188). -/
def sweepDelta (cfg : Config) (r : ChannelState) : Nat :=
  if r.sweepStep = 0#3 then r.rawFrequency.toNat
  else r.rawFrequency.toNat >>> (r.sweepStep.toNat - cfg.sweepBias)

/-- An increasing sweep leaves the range of the frequency code (R188). -/
def sweepOverflows (cfg : Config) (r : ChannelState) : Bool :=
  decide (2048 ≤ r.rawFrequency.toNat + sweepDelta cfg r)

/-- `high`: the phase is inside the duty window and the volume is at least 1 (R192). -/
def dutyHigh (cfg : Config) (r : ChannelState) : Bool :=
  decide (cfg.sr * r.periodCode * r.dutyStart.toNat ≤ r.freqDist * 2 ^ 20)
    && decide (r.freqDist * 2 ^ 20 < cfg.sr * r.periodCode * r.dutyEnd.toNat)
    && decide (1 ≤ r.volume.toNat)

end Sys2Proof.Machine
end

