-- ==== Sys2Proof/Machine/Ops.lean ====
section
/-! DEFINITION. The named operations over the register store, the pending-update slot, the records, the streams and the
waiting commands. The block takes no exception and returns from none (R240, R246, R247), so there is no such operation. -/

namespace Sys2Proof.Machine

/-! The register store (R62, R63). -/

/-- The canonical form: addresses strictly rising from `lo`, all inside the 16-bit space. -/
def Memory.wfFrom (lo : Nat) : Memory → Bool
  | [] => true
  | (a, _) :: m => decide (lo ≤ a) && decide (a < 2 ^ 16) && Memory.wfFrom (a + 1) m

/-- A store in canonical form. An unlisted address holds no stored byte, so no entry can repeat what it reads as
(log entry 3). -/
def Memory.wf (m : Memory) : Bool := Memory.wfFrom 0 m

/-- The byte stored at an address, if a `WR` has stored one. -/
def Memory.lookup : Memory → Nat → Option Byte
  | [], _ => none
  | (b, v) :: m, a => if a = b then some v else Memory.lookup m a

/-- Store one byte, keeping the canonical form. -/
def Memory.insert : Memory → Nat → Byte → Memory
  | [], a, v => [(a, v)]
  | (b, w) :: m, a, v =>
    if a < b then (a, v) :: (b, w) :: m
    else if a = b then (a, v) :: m
    else (b, w) :: Memory.insert m a v

/-- `MemRead(a, 1)`: the byte last stored at `a`, or its `REG_INIT` byte (R62). -/
def State.memRead (s : State) (a : Addr) : Byte := (Memory.lookup s.store a.toNat).getD (Config.regInit a)

/-- `MemWrite(a, 1, v)`: all eight bits are stored (R63). -/
def State.memWrite (s : State) (a : Addr) (v : Byte) : State :=
  { s with store := Memory.insert s.store a.toNat v }

/-- The byte at `WAVE[j]` (R227). -/
def State.waveByte (s : State) (j : Nat) : Byte := s.memRead (Reg.waveBase + BitVec.ofNat 16 j)

/-! The pending-update slot (R38). -/

/-- A `WR` signals: the slot takes its address (R130). -/
def State.signal (s : State) (a : Addr) : State := { s with pend := true, pendAddr := a }

/-- `POLL` consumes the update; the address stays (R131). -/
def State.consume (s : State) : State := { s with pend := false }

/-! The records, each written by its own channel's operations only. -/

def State.setCh1 (s : State) (r : ChannelState) : State := { s with st0 := r }
def State.setCh2 (s : State) (r : ChannelState) : State := { s with st1 := r }
def State.setCh3 (s : State) (r : ChannelState) : State := { s with st2 := r }

/-! `emit`, for the samples of a whole request at once (R13, R181). -/

def State.emit1 (s : State) (vs : List Sample) : State := { s with out1 := s.out1 ++ vs }
def State.emit2 (s : State) (vs : List Sample) : State := { s with out2 := s.out2 ++ vs }
def State.emit3 (s : State) (vs : List Sample) : State := { s with out3 := s.out3 ++ vs }

/-- The `n` slots of a request, one after the other; the samples oldest first (R181, R195). -/
def runSlots (slot : ChannelState → ChannelState × Sample) : Nat → ChannelState → ChannelState × List Sample
  | 0, r => (r, [])
  | n + 1, r =>
    let first := slot r
    let rest := runSlots slot n first.1
    (rest.1, first.2 :: rest.2)

/-! The parts the three generators share. -/

/-- Phase advance: `freq_dist` counts up and wraps to 0 when it reaches the period `SR * P / scale`; `scale` is 131072 for
channels 1 and 2 (R185) and 65536 for channel 3 (R225). -/
def phaseAdvance (cfg : Config) (scale : Nat) (r : ChannelState) : ChannelState :=
  { r with freqDist := if cfg.sr * r.periodCode ≤ (r.freqDist + 1) * scale then 0 else r.freqDist + 1 }

/-- An indefinite note that has run out is reloaded and the slot goes on (R184, R224). -/
def reloadLength (cfg : Config) (r : ChannelState) : ChannelState :=
  { r with sampleLength := if r.sampleLength = 0 then Duration.samples cfg .indefinite else r.sampleLength }

/-- Countdown at the end of a waveform slot (R194, R228). -/
def countDown (r : ChannelState) : ChannelState := { r with sampleLength := r.sampleLength - 1 }

/-- The final silent slot of a finite note turns the channel off (R183, R224). -/
def turnOff (r : ChannelState) : ChannelState := { r with playing := false }

/-- One output slot of any generator: off, end of a finite note, or a waveform slot `wave` (R195, R196, R229). -/
def outputSlot (cfg : Config) (wave : ChannelState → ChannelState × Sample) (r : ChannelState) :
    ChannelState × Sample :=
  if r.playing = false then (r, silence cfg)
  else if noteEnded r = true then (turnOff r, silence cfg)
  else
    let w := wave (reloadLength cfg r)
    (countDown w.1, w.2)

/-! The waiting commands (R91). -/

/-- A word put where `step` takes its next command from. -/
def State.placeCommand (s : State) (w : CommandWord) : State := { s with commands := w :: s.commands }

/-- An update put into the slot, with the `POLL` that will decode it next: how a sub-operation of R96 comes to run
(log entry 4). -/
def State.placeDispatch (s : State) (a : Addr) : State := (s.signal a).placeCommand 0x40000000#32

/-- The commands after the one that was taken. -/
def State.setCommands (s : State) (ws : List CommandWord) : State := { s with commands := ws }

end Sys2Proof.Machine
end

