-- ==== Sys2Proof/Machine/Square.lean ====
section
/-! DEFINITION. The square-wave generators `GEN1` and `GEN2` (R181 to R199). -/

namespace Sys2Proof.Machine

/-- A sweep event (R188). On overflow the channel stops and `raw_frequency` keeps its value. -/
def sweepEvent (cfg : Config) (r : ChannelState) : ChannelState :=
  if r.sweepDirection = false then
    if sweepOverflows cfg r = true then
      { r with volume := 0#4, sweepStep := 0#3, envelopeStep := 0#3, sweepTime := 0#3, playing := false }
    else { r with rawFrequency := BitVec.ofNat 11 (r.rawFrequency.toNat + sweepDelta cfg r) }
  else { r with rawFrequency := BitVec.ofNat 11 (r.rawFrequency.toNat - sweepDelta cfg r) }

/-- The sweep counter reaches its threshold in this slot (R187). -/
def sweepDue (cfg : Config) (r : ChannelState) : Bool :=
  decide (cfg.sr * r.sweepTime.toNat ≤ (r.sweepCounter + 1) * 128)

/-- Sweep cadence (R187): nothing without an active sweep; the counter restarts after each event. -/
def sweepTick (cfg : Config) (r : ChannelState) : ChannelState :=
  if r.sweepTime = 0#3 then r
  else if sweepDue cfg r = true then { sweepEvent cfg r with sweepCounter := 0 }
  else { r with sweepCounter := r.sweepCounter + 1 }

/-- An envelope event: one step of the volume, saturating at 0 and 15 (R190). -/
def envelopeEvent (r : ChannelState) : ChannelState :=
  { r with
    volume := BitVec.ofNat 4
      (if r.envelopeDirection = true then min 15 (r.volume.toNat + 1) else r.volume.toNat - 1) }

/-- The envelope counter reaches its threshold in this slot (R189). -/
def envelopeDue (cfg : Config) (r : ChannelState) : Bool :=
  decide (cfg.sr * r.envelopeStep.toNat ≤ (r.envelopeCounter + 1) * 64)

/-- Envelope cadence (R189). -/
def envelopeTick (cfg : Config) (r : ChannelState) : ChannelState :=
  if r.envelopeStep = 0#3 then r
  else if envelopeDue cfg r = true then { envelopeEvent r with envelopeCounter := 0 }
  else { r with envelopeCounter := r.envelopeCounter + 1 }

/-- `AMP(v) = floor(MAXP * v / 16)` (R193, D4). -/
def amplitude (cfg : Config) (v : BitVec 4) : Sample := toSample ((cfg.maxPositive * v.toNat / 16 : Nat) : Int)

/-- The sample of a waveform slot: `AMP(volume)` when high, `MIN` when low (R193). -/
def squareSample (cfg : Config) (r : ChannelState) : Sample :=
  if dutyHigh cfg r = true then amplitude cfg r.volume else silence cfg

/-- A waveform slot of channel 1 in the order of R191: phase, sweep, envelope, waveform. -/
def waveSlot1 (cfg : Config) (r : ChannelState) : ChannelState × Sample :=
  let r' := envelopeTick cfg (sweepTick cfg (phaseAdvance cfg 131072 r))
  (r', squareSample cfg r')

/-- A waveform slot of channel 2: no sweep (R196). -/
def waveSlot2 (cfg : Config) (r : ChannelState) : ChannelState × Sample :=
  let r' := envelopeTick cfg (phaseAdvance cfg 131072 r)
  (r', squareSample cfg r')

/-- The `n` slots of `GEN1` on record 0 (R195). -/
def runGen1 (n : Nat) (s : State) : State :=
  let out := runSlots (outputSlot psg (waveSlot1 psg)) n s.st0
  (s.setCh1 out.1).emit1 out.2

/-- The `n` slots of `GEN2` on record 1 (R196). -/
def runGen2 (n : Nat) (s : State) : State :=
  let out := runSlots (outputSlot psg (waveSlot2 psg)) n s.st1
  (s.setCh2 out.1).emit2 out.2

/-- `GEN1 n` (R195). -/
def execGen1 (n : BitVec 16) (s : State) : Result := .next (runGen1 n.toNat s)

/-- `GEN2 n` (R196). -/
def execGen2 (n : BitVec 16) (s : State) : Result := .next (runGen2 n.toNat s)

end Sys2Proof.Machine
end

