-- ==== Sys2Proof/Machine/Wave.lean ====
section
/-! DEFINITION. The wavetable generator `GEN3` (R221 to R231). -/

namespace Sys2Proof.Machine

/-- The duration derived in this call, and with it the note's length, but only if it differs from the stored one (R222). -/
def redurate (cfg : Config) (d : Duration) (r : ChannelState) : ChannelState :=
  if d = r.duration then r else { r with duration := d, sampleLength := Duration.samples cfg d }

/-- Per-call re-derivation from `CH3_FHI`, `CH3_FLO`, `CH3_LEN` and `CH3_LEVEL` (R222). -/
def rederive (cfg : Config) (fhi flo len level : Byte) (r : ChannelState) : ChannelState :=
  { redurate cfg (waveDuration cfg len fhi) r with
    rawFrequency := frequencyCode fhi flo
    waveShift := shiftOf (levelSelector level) }

/-- The playback pointer: `floor(freq_dist / wave_step) mod 32` with `wave_step = SR * P / 2^21` (R226). -/
def waveIndex (cfg : Config) (r : ChannelState) : Nat := r.freqDist * 2 ^ 21 / (cfg.sr * r.periodCode) % 32

/-- The sample of a nibble: `MIN + W_UNIT * (nib >> wave_shift)` (R228). -/
def waveSample (cfg : Config) (shift : BitVec 3) (nib : BitVec 4) : Sample :=
  toSample (cfg.minSample + cfg.waveUnit * ((nib.toNat >>> shift.toNat : Nat) : Int))

/-- A waveform slot of channel 3 over the wave table `table` (R225 to R228): phase, pointer, nibble, shift and scale. -/
def waveSlot3 (cfg : Config) (table : Nat → Byte) (r : ChannelState) : ChannelState × Sample :=
  let r' := phaseAdvance cfg 65536 r
  let idx := waveIndex cfg r'
  (r', waveSample cfg r'.waveShift (nibble idx (table (idx / 2))))

/-- What a `GEN3` call starts its slots from: the record re-derived if the channel plays (R221). -/
def startGen3 (s : State) : ChannelState :=
  if s.st2.playing = true then
    rederive psg (s.memRead Reg.ch3Fhi) (s.memRead Reg.ch3Flo) (s.memRead Reg.ch3Len) (s.memRead Reg.ch3Level) s.st2
  else s.st2

/-- A `GEN3` call: the re-derivation, also when `n = 0`, then `n` slots (R221, R229). -/
def runGen3 (n : Nat) (s : State) : State :=
  let out := runSlots (outputSlot psg (waveSlot3 psg s.waveByte)) n (startGen3 s)
  (s.setCh3 out.1).emit3 out.2

/-- `GEN3 n` (R229). -/
def execGen3 (n : BitVec 16) (s : State) : Result := .next (runGen3 n.toNat s)

end Sys2Proof.Machine
end

