-- ==== Sys2Proof/Machine/Generate.lean ====
section
/-! DEFINITION. The sample request of all three channels, `GEN n` (R181 with `ch = 0`). -/

namespace Sys2Proof.Machine

/-- `GEN n`: `GEN1(n)`, `GEN2(n)`, `GEN3(n)` in one step; nothing is emitted for channel 4 (R181). -/
def execGen (n : BitVec 16) (s : State) : Result :=
  .next (runGen3 n.toNat (runGen2 n.toNat (runGen1 n.toNat s)))

end Sys2Proof.Machine
end

