-- ==== Sys2Proof/Machine/Trigger.lean ====
section
/-! DEFINITION. The trigger handlers `TRIG1`, `TRIG2`, `TRIG3` (R152 to R163). Each reads the register store and writes
its own channel's record; it runs inside an atomic `POLL`, after `pend` has been cleared. -/

namespace Sys2Proof.Machine

/-- Common reset (R153): phase and duration to 0, the channel plays. -/
def commonReset (r : ChannelState) : ChannelState := { r with freqDist := 0, duration := .zero, playing := true }

/-- Duty latch (R154). -/
def latchDuty (duty : Byte) (r : ChannelState) : ChannelState :=
  { r with dutyStart := (dutyPair (dutySelector duty)).1, dutyEnd := (dutyPair (dutySelector duty)).2 }

/-- Duration decode (R155). -/
def latchDuration (cfg : Config) (duty fhi : Byte) (r : ChannelState) : ChannelState :=
  { r with
    duration := squareDuration duty fhi
    sampleLength := Duration.samples cfg (squareDuration duty fhi) }

/-- Frequency decode (R156). -/
def latchFrequency (fhi flo : Byte) (r : ChannelState) : ChannelState :=
  { r with rawFrequency := frequencyCode fhi flo }

/-- Volume and envelope latch (R157), shared with the re-arm of R172; the counter's reset at a trigger is D14. -/
def latchEnvelope (env : Byte) (r : ChannelState) : ChannelState :=
  { r with
    volume := volumeField env
    envelopeDirection := envDirectionField env
    envelopeStep := envStepField env
    envelopeCounter := 0 }

/-- Sweep latch (R158); the counter's reset is D14. -/
def latchSweep (sweep : Byte) (r : ChannelState) : ChannelState :=
  { r with
    sweepTime := sweepTimeField sweep
    sweepDirection := sweepDirectionField sweep
    sweepStep := sweepStepField sweep
    sweepCounter := 0 }

/-- What a firing trigger of a square channel latches, in the order of R159. -/
def latchSquare (cfg : Config) (duty env flo fhi : Byte) (r : ChannelState) : ChannelState :=
  latchEnvelope env (latchFrequency fhi flo (latchDuration cfg duty fhi (latchDuty duty (commonReset r))))

/-- `TRIG1` (R160). If it does not fire it has no effect (R152). -/
def execTrig1 (s : State) : Result :=
  .next
    (if fires (s.memRead Reg.outSel) (s.memRead Reg.ch1Fhi) 0 = true then
      s.setCh1 (latchSweep (s.memRead Reg.ch1Sweep)
        (latchSquare psg (s.memRead Reg.ch1Duty) (s.memRead Reg.ch1Env) (s.memRead Reg.ch1Flo)
          (s.memRead Reg.ch1Fhi) s.st0))
    else s)

/-- `TRIG2` (R161): as channel 1 from channel 2's own registers, with no sweep. -/
def execTrig2 (s : State) : Result :=
  .next
    (if fires (s.memRead Reg.outSel) (s.memRead Reg.ch2Fhi) 1 = true then
      s.setCh2 (latchSquare psg (s.memRead Reg.ch2Duty) (s.memRead Reg.ch2Env) (s.memRead Reg.ch2Flo)
        (s.memRead Reg.ch2Fhi) s.st1)
    else s)

/-- `TRIG3` (R162): only the common reset; nothing is latched from registers. -/
def execTrig3 (s : State) : Result :=
  .next (if fires (s.memRead Reg.outSel) (s.memRead Reg.ch3Fhi) 2 = true then s.setCh3 (commonReset s.st2) else s)

end Sys2Proof.Machine
end

