-- ==== Sys2Proof/Machine/LiveUpdate.lean ====
section
/-! DEFINITION. The channel-1 live-update handler's four entry points (R170 to R173). None tests `playing`. -/

namespace Sys2Proof.Machine

/-- `LIVE1.SWEEP` (R170): no effect on `st[0]`. -/
def execLive1Sweep (s : State) : Result := .next s

/-- `LIVE1.DUTY` (R171): no effect on `st[0]`. -/
def execLive1Duty (s : State) : Result := .next s

/-- `LIVE1.ENV` (R172): the envelope restarts only if its step goes from 0 to non-zero. -/
def execLive1Env (s : State) : Result :=
  .next
    (if s.st0.envelopeStep = 0#3 ∧ envStepField (s.memRead Reg.ch1Env) ≠ 0#3 then
      s.setCh1 (latchEnvelope (s.memRead Reg.ch1Env) s.st0)
    else s)

/-- The low byte of the frequency code replaced, nothing else (R173). -/
def replaceFlo (flo : Byte) (r : ChannelState) : ChannelState :=
  { r with rawFrequency := replaceLowByte r.rawFrequency flo }

/-- `LIVE1.FLO` (R173): the low byte of the code changes while a sweep is active, that is `sweep_time ≥ 1` (D13). -/
def execLive1Flo (s : State) : Result :=
  .next (if s.st0.sweepTime ≠ 0#3 then s.setCh1 (replaceFlo (s.memRead Reg.ch1Flo) s.st0) else s)

end Sys2Proof.Machine
end

