-- ==== Sys2Proof/Machine/Poll.lean ====
section
/-! DEFINITION. The update dispatcher: `POLL` (R131, R132) and `NOROUTE` (R139). -/

namespace Sys2Proof.Machine

/-- `NOROUTE` (R139): nothing; the update has been consumed. -/
def execNoroute (s : State) : Result := .next s

/-- Route a consumed update to its handler, by the comparison chain of R131. -/
def route (s : State) : Result :=
  if s.pendAddr = Reg.ch1Sweep then execLive1Sweep s
  else if s.pendAddr = Reg.ch1Duty then execLive1Duty s
  else if s.pendAddr = Reg.ch1Env then execLive1Env s
  else if s.pendAddr = Reg.ch1Flo then execLive1Flo s
  else if s.pendAddr = Reg.ch1Fhi then execTrig1 s
  else if s.pendAddr = Reg.ch2Fhi then execTrig2 s
  else if s.pendAddr = Reg.ch3Fhi then execTrig3 s
  else execNoroute s

/-- `POLL`: with an update pending, clear `pend` and run the one handler, in one step (R131, R70); else no effect (R132). -/
def execPoll (s : State) : Result := if s.pend = true then route s.consume else .next s

end Sys2Proof.Machine
end

