-- ==== Sys2Proof/Machine/RegisterWrite.lean ====
section
/-! DEFINITION. `WR addr, data` (R130), one meaning per row of the table: the byte is stored, the slot takes the address,
and no channel record changes. -/

namespace Sys2Proof.Machine

/-- A register write: `MemWrite(addr, 1, data)`, then the signal (R130). Every address signals (D11). -/
def writeRegister (addr : Addr) (data : Byte) (s : State) : Result := .next ((s.memWrite addr data).signal addr)

def execWrCh1Sweep (data : Byte) (s : State) : Result := writeRegister Reg.ch1Sweep data s
def execWrCh1Duty (data : Byte) (s : State) : Result := writeRegister Reg.ch1Duty data s
def execWrCh1Env (data : Byte) (s : State) : Result := writeRegister Reg.ch1Env data s
def execWrCh1Flo (data : Byte) (s : State) : Result := writeRegister Reg.ch1Flo data s
def execWrCh1Fhi (data : Byte) (s : State) : Result := writeRegister Reg.ch1Fhi data s
def execWrCh2Duty (data : Byte) (s : State) : Result := writeRegister Reg.ch2Duty data s
def execWrCh2Env (data : Byte) (s : State) : Result := writeRegister Reg.ch2Env data s
def execWrCh2Flo (data : Byte) (s : State) : Result := writeRegister Reg.ch2Flo data s
def execWrCh2Fhi (data : Byte) (s : State) : Result := writeRegister Reg.ch2Fhi data s
/-- `CH3_ON` is stored and never read: no channel-3 enable gates anything (R116, D24). -/
def execWrCh3On (data : Byte) (s : State) : Result := writeRegister Reg.ch3On data s
def execWrCh3Len (data : Byte) (s : State) : Result := writeRegister Reg.ch3Len data s
def execWrCh3Level (data : Byte) (s : State) : Result := writeRegister Reg.ch3Level data s
def execWrCh3Flo (data : Byte) (s : State) : Result := writeRegister Reg.ch3Flo data s
def execWrCh3Fhi (data : Byte) (s : State) : Result := writeRegister Reg.ch3Fhi data s
def execWrOutSel (data : Byte) (s : State) : Result := writeRegister Reg.outSel data s
/-- `WR WAVE[j], data` (R115). -/
def execWrWave (j : BitVec 4) (data : Byte) (s : State) : Result :=
  writeRegister (Reg.waveBase + j.setWidth 16) data s
/-- An address outside the map is stored and signalled like any other (R64). -/
def execWrOther (addr : Addr) (data : Byte) (s : State) : Result := writeRegister addr data s

end Sys2Proof.Machine
end

