-- ==== Sys2Proof/Machine/Dispatch.lean ====
section
/-! DEFINITION. The dispatch of an operation to its meaning, one arm per constructor. -/

namespace Sys2Proof.Machine

def exec (i : Instr) (s : State) : Host.Outcome State Fault Refusal :=
  match i with
  | .wrCh1Sweep data => Sys2Proof.Machine.execWrCh1Sweep data s
  | .wrCh1Duty data => Sys2Proof.Machine.execWrCh1Duty data s
  | .wrCh1Env data => Sys2Proof.Machine.execWrCh1Env data s
  | .wrCh1Flo data => Sys2Proof.Machine.execWrCh1Flo data s
  | .wrCh1Fhi data => Sys2Proof.Machine.execWrCh1Fhi data s
  | .wrCh2Duty data => Sys2Proof.Machine.execWrCh2Duty data s
  | .wrCh2Env data => Sys2Proof.Machine.execWrCh2Env data s
  | .wrCh2Flo data => Sys2Proof.Machine.execWrCh2Flo data s
  | .wrCh2Fhi data => Sys2Proof.Machine.execWrCh2Fhi data s
  | .wrCh3On data => Sys2Proof.Machine.execWrCh3On data s
  | .wrCh3Len data => Sys2Proof.Machine.execWrCh3Len data s
  | .wrCh3Level data => Sys2Proof.Machine.execWrCh3Level data s
  | .wrCh3Flo data => Sys2Proof.Machine.execWrCh3Flo data s
  | .wrCh3Fhi data => Sys2Proof.Machine.execWrCh3Fhi data s
  | .wrOutSel data => Sys2Proof.Machine.execWrOutSel data s
  | .wrWave j data => Sys2Proof.Machine.execWrWave j data s
  | .wrOther addr data => Sys2Proof.Machine.execWrOther addr data s
  | .poll => Sys2Proof.Machine.execPoll s
  | .gen n => Sys2Proof.Machine.execGen n s
  | .gen1 n => Sys2Proof.Machine.execGen1 n s
  | .gen2 n => Sys2Proof.Machine.execGen2 n s
  | .gen3 n => Sys2Proof.Machine.execGen3 n s
  | .live1Sweep => Sys2Proof.Machine.execLive1Sweep s
  | .live1Duty => Sys2Proof.Machine.execLive1Duty s
  | .live1Env => Sys2Proof.Machine.execLive1Env s
  | .live1Flo => Sys2Proof.Machine.execLive1Flo s
  | .trig1 => Sys2Proof.Machine.execTrig1 s
  | .trig2 => Sys2Proof.Machine.execTrig2 s
  | .trig3 => Sys2Proof.Machine.execTrig3 s
  | .noroute => Sys2Proof.Machine.execNoroute s

end Sys2Proof.Machine
end

