-- ==== Sys2Proof/Machine/Step.lean ====
section
/-! DEFINITION. One step: the next waiting command word is decoded and its operation runs, atomically (R70, R91). -/

namespace Sys2Proof.Machine

/-- One step. With no command waiting the block does nothing (R37: "the block never acts on its own"; log entry 1); a word
that names no port transfer is refused by name (R95). -/
def step (s : State) : Host.Outcome State Fault Refusal :=
  match s.commands with
  | [] => .next s
  | w :: rest =>
    match decodeCommand w with
    | .ok i => exec i (s.setCommands rest)
    | .error why => .refused (.reservedWord why w)

/-- `s` with an opcode-table word placed so that the very next step runs it: a word of 32 bits as the next command, a
dispatch address of 16 bits in the slot with the `POLL` that decodes it as the next command (log entries 1 and 4). -/
def State.withFetchWord (s : State) (nbits w : Nat) : State :=
  if nbits ≤ 16 then s.placeDispatch (BitVec.ofNat 16 w) else s.placeCommand (BitVec.ofNat 32 w)

end Sys2Proof.Machine
end

