-- ==== Sys2Proof/Pseudo.lean ====
section
/-! DEFINITION. Who issues which operation (R6, R250) and the pseudo-operations of the trace syntax with their
expansions (R119). -/

namespace Sys2Proof

/-- The agents that issue operations (R6, R250, R263). -/
inductive Agent where
  /-- The emulation timeline: `WR` and `POLL`. -/
  | host
  /-- The audio-backend timeline: `GEN`. -/
  | backend
  deriving DecidableEq, Repr

/-- The agent that may issue an operation on its port; the sub-operations run only inside a `POLL` (R6, R250). -/
def Instr.issuer : Instr → Option Agent
  | .wrCh1Sweep _ | .wrCh1Duty _ | .wrCh1Env _ | .wrCh1Flo _ | .wrCh1Fhi _ => some .host
  | .wrCh2Duty _ | .wrCh2Env _ | .wrCh2Flo _ | .wrCh2Fhi _ => some .host
  | .wrCh3On _ | .wrCh3Len _ | .wrCh3Level _ | .wrCh3Flo _ | .wrCh3Fhi _ => some .host
  | .wrOutSel _ | .wrWave _ _ | .wrOther _ _ => some .host
  | .poll => some .host
  | .gen _ | .gen1 _ | .gen2 _ | .gen3 _ => some .backend
  | .live1Sweep | .live1Duty | .live1Env | .live1Flo => none
  | .trig1 | .trig2 | .trig3 | .noroute => none

/-- The operation is a register write (R92). -/
def Instr.isWrite : Instr → Bool
  | .wrCh1Sweep _ | .wrCh1Duty _ | .wrCh1Env _ | .wrCh1Flo _ | .wrCh1Fhi _ => true
  | .wrCh2Duty _ | .wrCh2Env _ | .wrCh2Flo _ | .wrCh2Fhi _ => true
  | .wrCh3On _ | .wrCh3Len _ | .wrCh3Level _ | .wrCh3Flo _ | .wrCh3Fhi _ => true
  | .wrOutSel _ | .wrWave _ _ | .wrOther _ _ => true
  | .poll | .gen _ | .gen1 _ | .gen2 _ | .gen3 _ => false
  | .live1Sweep | .live1Duty | .live1Env | .live1Flo => false
  | .trig1 | .trig2 | .trig3 | .noroute => false

/-- The pseudo-operations of R119. `fin` is the frequency-high register's bit 6. -/
inductive Pseudo where
  /-- `WRP <reg>, <byte>`, for any `WR`. -/
  | wrp (write : Instr)
  /-- `WAVELOAD b0, ..., b15`. -/
  | waveload (bytes : Vector Byte 16)
  | freq1 (f : BitVec 11)
  | note1 (f : BitVec 11) (fin : BitVec 1)
  | note2 (f : BitVec 11) (fin : BitVec 1)
  | note3 (f : BitVec 11) (fin : BitVec 1)
  deriving Repr

/-- `0x80 | (fin << 6) | f[10:8]`: the frequency-high byte of a note (R119). -/
def noteHighByte (f : BitVec 11) (fin : BitVec 1) : Byte := 1#1 ++ fin ++ 0#3 ++ f.extractLsb' 8 3

/-- The operations a pseudo-operation stands for (R119). -/
def Pseudo.expand : Pseudo → List Instr
  | .wrp write => [write, .poll]
  | .waveload bytes => (List.finRange 16).map fun j => .wrWave (BitVec.ofNat 4 j.val) bytes[j]
  | .freq1 f => [.wrCh1Flo (f.extractLsb' 0 8), .poll]
  | .note1 f fin => [.wrCh1Flo (f.extractLsb' 0 8), .poll, .wrCh1Fhi (noteHighByte f fin), .poll]
  | .note2 f fin => [.wrCh2Flo (f.extractLsb' 0 8), .poll, .wrCh2Fhi (noteHighByte f fin), .poll]
  | .note3 f fin => [.wrCh3Flo (f.extractLsb' 0 8), .poll, .wrCh3Fhi (noteHighByte f fin), .poll]

end Sys2Proof
end

