-- ==== Sys2Proof/Reference.lean ====
section
/-! DEFINITION. The source's formulas as it writes them, in exact rational arithmetic (R8): frequency in Hz, period in
samples, durations in milliseconds, and the slots of the generators over them. The machine computes with natural numbers
only (R9); the statements hold the two against each other. Every constant is the literal of the rule, for SR = 44100. -/

namespace Sys2Proof.Reference

open Sys2Proof.Machine

/-- The sample rate of this hardware (R7). -/
abbrev sampleRate : ℚ := 44100

/-- `4194304 / (32 * (2048 − raw_frequency))` Hz, channels 1 and 2 (R156). -/
def frequency (raw : BitVec 11) : ℚ := 4194304 / (32 * (2048 - (raw.toNat : ℚ)))

/-- Channel 3 plays at half that frequency (R222). -/
def frequency3 (raw : BitVec 11) : ℚ := frequency raw / 2

/-- `freq_samples = sample_rate / frequency`, samples per period (R185). -/
def freqSamples (raw : BitVec 11) : ℚ := sampleRate / frequency raw

/-- The period of channel 3 in samples (R225). -/
def freqSamples3 (raw : BitVec 11) : ℚ := sampleRate / frequency3 raw

/-- `wave_step = (sample_rate / frequency) / 32` (R222). -/
def waveStep (raw : BitVec 11) : ℚ := freqSamples3 raw / 32

/-- A duration in milliseconds (R23): the sentinel 5000, or `1000 / (256 / k)` with `k = 64 − length_bits` (R155) or
`k = 256 − L3` (R222). -/
def durationMs : Duration → ℚ
  | .zero => 0
  | .indefinite => 5000
  | .finite k => 1000 / (256 / (k : ℚ))

/-- `floor(duration_ms * sample_rate / 1000)` (R155, R10). -/
def noteSamples (d : Duration) : Nat := ⌊durationMs d * sampleRate / 1000⌋.toNat

/-- Step 1: the phase wraps to 0 when it reaches the period `T` (R185, R225). -/
def phase (T : ℚ) (r : ChannelState) : ChannelState :=
  let f := r.freqDist + 1
  { r with freqDist := if (f : ℚ) ≥ T then 0 else f }

/-- The adjusted amount: `frequency / 2^(sweep_step − 1)`, or all of it if the step is 0 (R188). -/
def sweepAmount (r : ChannelState) : Nat :=
  if r.sweepStep = 0#3 then r.rawFrequency.toNat
  else ⌊(r.rawFrequency.toNat : ℚ) / 2 ^ (r.sweepStep.toNat - 1)⌋.toNat

/-- Step 2: the sweep (R187, R188). -/
def sweep (r : ChannelState) : ChannelState :=
  if r.sweepTime.toNat ≥ 1 then
    let c := r.sweepCounter + 1
    if (c : ℚ) ≥ sampleRate / 128 * r.sweepTime.toNat then
      if r.sweepDirection then
        { r with rawFrequency := BitVec.ofNat 11 (r.rawFrequency.toNat - sweepAmount r), sweepCounter := 0 }
      else if r.rawFrequency.toNat + sweepAmount r ≥ 2048 then
        { r with volume := 0#4, sweepStep := 0#3, envelopeStep := 0#3, sweepTime := 0#3, playing := false, sweepCounter := 0 }
      else { r with rawFrequency := BitVec.ofNat 11 (r.rawFrequency.toNat + sweepAmount r), sweepCounter := 0 }
    else { r with sweepCounter := c }
  else r

/-- Step 3: the envelope (R189, R190). -/
def envelope (r : ChannelState) : ChannelState :=
  if r.envelopeStep.toNat ≥ 1 then
    let c := r.envelopeCounter + 1
    if (c : ℚ) ≥ sampleRate / 64 * r.envelopeStep.toNat then
      { r with
        volume := BitVec.ofNat 4
          (if r.envelopeDirection then min 15 (r.volume.toNat + 1) else max 0 (r.volume.toNat - 1))
        envelopeCounter := 0 }
    else { r with envelopeCounter := c }
  else r

/-- Step 4: the duty window and the amplitude (R192, R193). -/
def squareValue (r : ChannelState) : ℤ :=
  if (r.freqDist : ℚ) ≥ freqSamples r.rawFrequency / 8 * r.dutyStart.toNat
      ∧ (r.freqDist : ℚ) < freqSamples r.rawFrequency / 8 * r.dutyEnd.toNat
      ∧ r.volume.toNat ≥ 1 then
    ⌊(32767 : ℚ) / 16 * r.volume.toNat⌋
  else -32768

/-- Steps 5 of channel 3: the playback pointer, the nibble, the shift and the scale (R226 to R228). -/
def waveValue (table : Nat → Byte) (r : ChannelState) : ℤ :=
  let idx := (⌊(r.freqDist : ℚ) / waveStep r.rawFrequency⌋ % 32).toNat
  let b := (table (idx / 2)).toNat
  let nib := if idx % 2 = 0 then b / 16 else b % 16
  4369 * ((nib / 2 ^ r.waveShift.toNat : Nat) : ℤ) - 32768

/-- The frame every slot has: off, the final silent sample of a finite note, or a waveform slot with the indefinite
note's reload before it and the countdown after it (R182 to R184, R194). -/
def slot (steps : ChannelState → ChannelState) (value : ChannelState → ℤ) (r : ChannelState) : ChannelState × ℤ :=
  if r.playing = false then (r, -32768)
  else if r.sampleLength = 0 ∧ r.duration ≠ .indefinite then ({ r with playing := false }, -32768)
  else
    let loaded := if r.sampleLength = 0 then { r with sampleLength := noteSamples .indefinite } else r
    let r' := steps loaded
    ({ r' with sampleLength := r'.sampleLength - 1 }, value r')

/-- A slot of `GEN1` (R195). -/
def slot1 : ChannelState → ChannelState × ℤ :=
  slot (fun r => envelope (sweep (phase (freqSamples r.rawFrequency) r))) squareValue

/-- A slot of `GEN2` (R196). -/
def slot2 : ChannelState → ChannelState × ℤ :=
  slot (fun r => envelope (phase (freqSamples r.rawFrequency) r)) squareValue

/-- A slot of `GEN3` (R229). -/
def slot3 (table : Nat → Byte) : ChannelState → ChannelState × ℤ :=
  slot (fun r => phase (freqSamples3 r.rawFrequency) r) (waveValue table)

/-- `n` slots in a row: the record they leave and the values they emit, in order. -/
def slots (one : ChannelState → ChannelState × ℤ) : Nat → ChannelState → ChannelState × List ℤ
  | 0, r => (r, [])
  | n + 1, r => ((slots one n (one r).1).1, (one r).2 :: (slots one n (one r).1).2)

end Sys2Proof.Reference
end

