-- ==== Sys2Proof/Safety.lean ====
section
/-! DEFINITION. What the statements call a good state: the invariants of R43 with the counter bounds of R24, R30, R34 and
R37, the unused fields of R44, and the sample values a stream can hold (R242). -/

namespace Sys2Proof.Machine

/-- R43(c): one of the four decoded duty pairs, or the reset pair. -/
abbrev DutyLegal (r : ChannelState) : Prop :=
  (r.dutyStart, r.dutyEnd) ∈ ([(0#4, 0#4), (1#4, 2#4), (0#4, 2#4), (0#4, 4#4), (2#4, 8#4)] : List (BitVec 4 × BitVec 4))

/-- R43(d). -/
abbrev ShiftLegal (r : ChannelState) : Prop := r.waveShift ∈ ([0#3, 1#3, 2#3, 4#3] : List (BitVec 3))

/-- R23: a finite duration is `1000 * k / 256` ms with `k` in 1..`longest`. -/
def Duration.legal (longest : Nat) : Duration → Bool
  | .zero => true
  | .indefinite => true
  | .finite k => decide (1 ≤ k) && decide (k ≤ longest)

/-- R24: at most `5 * SR`. -/
abbrev LengthBounded (r : ChannelState) : Prop := r.sampleLength ≤ 5 * psg.sr

/-- R30: the envelope counter has not reached its next step, and never exceeds the longest period. -/
abbrev EnvelopeBounded (r : ChannelState) : Prop :=
  r.envelopeCounter * 64 < psg.sr * 7 ∧
    (r.envelopeStep ≠ 0#3 → r.envelopeCounter * 64 < psg.sr * r.envelopeStep.toNat)

/-- R34: the same of the sweep counter. -/
abbrev SweepBounded (r : ChannelState) : Prop :=
  r.sweepCounter * 128 < psg.sr * 7 ∧ (r.sweepTime ≠ 0#3 → r.sweepCounter * 128 < psg.sr * r.sweepTime.toNat)

/-- R37(a): the phase is below the longest period of its channel. -/
abbrev PhaseBounded (scale : Nat) (r : ChannelState) : Prop := r.freqDist * scale < psg.sr * 2048

/-- R43(f): the phase is below the period the record's own code gives. -/
abbrev PhaseInPeriod (scale : Nat) (r : ChannelState) : Prop := r.freqDist * scale < psg.sr * r.periodCode

/-- A playing square channel has a duration from its trigger (R153, R155). -/
abbrev PlayingHasDuration (r : ChannelState) : Prop := r.playing = true → r.duration ≠ .zero

/-- The invariant of R43 with the bounds of the counters, for every record, and the canonical form of the store. The
ranges R43(a), (b) and (e) are the widths of the fields. -/
structure Inv (s : State) : Prop where
  duty0 : DutyLegal s.st0
  duty1 : DutyLegal s.st1
  shift2 : ShiftLegal s.st2
  duration0 : s.st0.duration.legal 64 = true
  duration1 : s.st1.duration.legal 64 = true
  duration2 : s.st2.duration.legal 256 = true
  playing0 : PlayingHasDuration s.st0
  playing1 : PlayingHasDuration s.st1
  length0 : LengthBounded s.st0
  length1 : LengthBounded s.st1
  length2 : LengthBounded s.st2
  envelope0 : EnvelopeBounded s.st0
  envelope1 : EnvelopeBounded s.st1
  sweep0 : SweepBounded s.st0
  phase0 : PhaseBounded 131072 s.st0
  phase1 : PhaseInPeriod 131072 s.st1
  phase2 : PhaseBounded 65536 s.st2
  store : Memory.wf s.store = true

/-- R44: a field a channel has no use for keeps its reset value 0; channel 4 uses none (R36). -/
structure UnusedFieldsReset (s : State) : Prop where
  shift0 : s.st0.waveShift = 0#3
  sweep1 : s.st1.sweepDirection = false ∧ s.st1.sweepStep = 0#3 ∧ s.st1.sweepTime = 0#3 ∧ s.st1.sweepCounter = 0
  shift1 : s.st1.waveShift = 0#3
  volume2 : s.st2.volume = 0#4
  duty2 : s.st2.dutyStart = 0#4 ∧ s.st2.dutyEnd = 0#4
  envelope2 : s.st2.envelopeDirection = false ∧ s.st2.envelopeStep = 0#3 ∧ s.st2.envelopeCounter = 0
  sweep2 : s.st2.sweepDirection = false ∧ s.st2.sweepStep = 0#3 ∧ s.st2.sweepTime = 0#3 ∧ s.st2.sweepCounter = 0
  channel4 : s.st3 = ChannelState.reset

/-- A value a square channel can emit: `MIN`, or `AMP(v)` for a volume of 1..15 (R193). -/
def SquareSampleLegal (v : Sample) : Prop :=
  v.toInt = -32768 ∨ ∃ k : Nat, 1 ≤ k ∧ k ≤ 15 ∧ v.toInt = ((32767 * k / 16 : Nat) : Int)

/-- A value channel 3 can emit: `MIN + 4369 * k` for a nibble `k` (R228). -/
def WaveSampleLegal (v : Sample) : Prop := ∃ k : Nat, k ≤ 15 ∧ v.toInt = -32768 + 4369 * (k : Int)

/-- Every sample emitted so far is one its channel can emit. -/
structure StreamsLegal (s : State) : Prop where
  stream1 : ∀ v ∈ s.out1, SquareSampleLegal v
  stream2 : ∀ v ∈ s.out2, SquareSampleLegal v
  stream3 : ∀ v ∈ s.out3, WaveSampleLegal v

end Sys2Proof.Machine
end

