-- ==== Sys2Proof/Certificates/Slice0/Obligations.lean ====
section
/-! DEFINITION. The statements about this model, for the provers. Where a rule marks a clause with one of the spec's own
decisions (92_eei_decisions.md D<n>) or as its inference, the docstring says so. -/

open Sys2Proof Sys2Proof.Machine

namespace Sys2Proof.Claims

/-! Vocabulary, in numbers rather than bit fields, so that the statements do not repeat the model's definitions. -/

/-- The value of the byte a `MemRead` of `a` gives. -/
abbrev byteAt (s : State) (a : Addr) : Nat := (s.memRead a).toNat

/-- The record of channel `c + 1`, for the three active channels. -/
def chan (s : State) : Fin 3 → ChannelState
  | 0 => s.st0
  | 1 => s.st1
  | 2 => s.st2

/-- `s` with another record for channel `c + 1`. -/
def withChan (s : State) (c : Fin 3) (r : ChannelState) : State :=
  match c with
  | 0 => { s with st0 := r }
  | 1 => { s with st1 := r }
  | 2 => { s with st2 := r }

/-- The stream of channel `c + 1`. -/
def stream (s : State) : Fin 3 → List Sample
  | 0 => s.out1
  | 1 => s.out2
  | 2 => s.out3

/-- `s` with `vs` emitted on the stream of channel `c + 1`. -/
def withEmitted (s : State) (c : Fin 3) (vs : List Sample) : State :=
  match c with
  | 0 => { s with out1 := s.out1 ++ vs }
  | 1 => { s with out2 := s.out2 ++ vs }
  | 2 => { s with out3 := s.out3 ++ vs }

/-- The trigger of channel `c + 1`. -/
def trigOf : Fin 3 → Instr
  | 0 => .trig1
  | 1 => .trig2
  | 2 => .trig3

/-- The one-channel request of channel `c + 1`. -/
def genOf (c : Fin 3) (n : BitVec 16) : Instr :=
  match c with
  | 0 => .gen1 n
  | 1 => .gen2 n
  | 2 => .gen3 n

/-- The frequency-high/trigger register of channel `c + 1`. -/
def fhiOf : Fin 3 → Addr
  | 0 => 0xFF14#16
  | 1 => 0xFF19#16
  | 2 => 0xFF1E#16

/-- The fire condition of channel `c + 1` (R152): an output side bit of `OUT_SEL` (bit `c` or `c + 4`) and the trigger bit. -/
abbrev Fires (s : State) (c : Fin 3) : Prop :=
  (byteAt s 0xFF25#16 / 2 ^ c.val % 2 = 1 ∨ byteAt s 0xFF25#16 / 2 ^ (c.val + 4) % 2 = 1) ∧
    byteAt s (fhiOf c) / 128 = 1

/-- The duty pairs of the four selectors (R154). -/
def dutyTable : Nat → Nat × Nat
  | 0 => (1, 2)
  | 1 => (0, 2)
  | 2 => (0, 4)
  | _ => (2, 8)

/-- The level shifts of the four selectors (R222). -/
def shiftTable : Nat → Nat
  | 0 => 4
  | 1 => 0
  | 2 => 1
  | _ => 2

/-- The 11-bit code of a frequency register pair (R65): three high bits and eight low bits. -/
def codeAt (s : State) (fhi flo : Addr) : Nat := byteAt s fhi % 8 * 256 + byteAt s flo

/-- What a firing trigger of a square channel leaves in the fields it latches (R153 to R157). -/
def SquareLatched (s : State) (duty env flo fhi : Addr) (r : ChannelState) : Prop :=
  r.playing = true ∧ r.freqDist = 0 ∧ r.rawFrequency.toNat = codeAt s fhi flo ∧
  (byteAt s fhi / 64 % 2 = 0 → r.duration = .indefinite ∧ r.sampleLength = 220500) ∧
  (byteAt s fhi / 64 % 2 = 1 →
    r.duration = .finite (64 - byteAt s duty % 64) ∧
      r.sampleLength = (64 - byteAt s duty % 64) * 44100 / 256) ∧
  (r.dutyStart.toNat, r.dutyEnd.toNat) = dutyTable (byteAt s duty / 64) ∧
  r.volume.toNat = byteAt s env / 16 ∧ r.envelopeDirection = decide (byteAt s env / 8 % 2 = 1) ∧
  r.envelopeStep.toNat = byteAt s env % 8 ∧ r.envelopeCounter = 0

/-- A finite note has run out (R183). -/
abbrev Ended (r : ChannelState) : Prop := r.sampleLength = 0 ∧ r.duration ≠ .indefinite

/-- The next slot is a waveform slot (R195, R196). -/
abbrev InWaveform (r : ChannelState) : Prop := r.playing = true ∧ ¬ Ended r

/-- `P = 2048 − raw_frequency` (R11). -/
abbrev P (r : ChannelState) : Nat := 2048 - r.rawFrequency.toNat

/-- The period of channel `c + 1` in samples is `44100 * P` over this (R185, R225). -/
def phaseScale : Fin 3 → Nat
  | 0 => 131072
  | 1 => 131072
  | 2 => 65536

/-- The amount of a sweep adjustment (R188). -/
def sweepAmount (r : ChannelState) : Nat :=
  if r.sweepStep = 0#3 then r.rawFrequency.toNat else r.rawFrequency.toNat / 2 ^ (r.sweepStep.toNat - 1)

/-- A sweep event falls in the next waveform slot (R187). -/
abbrev SweepDue (r : ChannelState) : Prop :=
  r.sweepTime ≠ 0#3 ∧ 44100 * r.sweepTime.toNat ≤ (r.sweepCounter + 1) * 128

/-- That event is an increase out of range (R188). -/
abbrev Overflows (r : ChannelState) : Prop :=
  SweepDue r ∧ r.sweepDirection = false ∧ 2048 ≤ r.rawFrequency.toNat + sweepAmount r

/-- An envelope event falls in the next waveform slot (R189). -/
abbrev EnvelopeDue (r : ChannelState) : Prop :=
  r.envelopeStep ≠ 0#3 ∧ 44100 * r.envelopeStep.toNat ≤ (r.envelopeCounter + 1) * 64

/-- The duration the channel-3 registers give (R222). -/
def waveDuration (s : State) : Duration :=
  if byteAt s 0xFF1E#16 / 64 % 2 = 0 then .indefinite else .finite (256 - byteAt s 0xFF1B#16)

/-- The note length of a duration in samples at 44100 Hz (R155, R222). -/
def lengthOf : Duration → Nat
  | .zero => 0
  | .indefinite => 220500
  | .finite k => k * 44100 / 256

/-- Channel 3's record after the re-derivation at the start of a call while it plays (R222). -/
abbrev Rederived (s : State) (r : ChannelState) : Prop :=
  r = { s.st2 with
    rawFrequency := BitVec.ofNat 11 (codeAt s 0xFF1E#16 0xFF1D#16)
    duration := waveDuration s
    sampleLength := if waveDuration s = s.st2.duration then s.st2.sampleLength else lengthOf (waveDuration s)
    waveShift := BitVec.ofNat 3 (shiftTable (byteAt s 0xFF1C#16 / 32 % 4)) }

/-- The record the slots of the next request of channel `c + 1` start from: for channel 3 the re-derived one (R221). -/
def StartsFrom (s : State) (c : Fin 3) (r : ChannelState) : Prop :=
  match c with
  | 0 => r = s.st0
  | 1 => r = s.st1
  | 2 => (s.st2.playing = true ∧ Rederived s r) ∨ (s.st2.playing = false ∧ r = s.st2)

/-- A register write of any address, as the decoder gives it. -/
abbrev wr (a : Addr) (d : Byte) : Instr := decodeWrite a d

/-- What a `WR` to `a` of `d` does to the whole state (R130, R63, R72): the byte is stored, every other byte reads as
before, the slot takes the address, and records, streams and waiting commands stay. -/
def WritesRegister (i : Instr) (a : Addr) (d : Byte) : Prop :=
  ∀ s, ∃ t, exec i s = .next t ∧
    t.memRead a = d ∧ (∀ b, b ≠ a → t.memRead b = s.memRead b) ∧ t.pend = true ∧ t.pendAddr = a ∧
    t.st0 = s.st0 ∧ t.st1 = s.st1 ∧ t.st2 = s.st2 ∧ t.st3 = s.st3 ∧
    t.out1 = s.out1 ∧ t.out2 = s.out2 ∧ t.out3 = s.out3 ∧ t.commands = s.commands

/-- The words R95 reserves. -/
abbrev Reserved (w : CommandWord) : Prop :=
  w.extractLsb 31 30 = 0b11#2 ∨
  (w.extractLsb 31 30 = 0b00#2 ∧ w.extractLsb 29 24 ≠ 0) ∨
  (w.extractLsb 31 30 = 0b01#2 ∧ w.extractLsb 29 0 ≠ 0) ∨
  (w.extractLsb 31 30 = 0b10#2 ∧ w.extractLsb 29 18 ≠ 0)

/-- The addresses a handler or generator reads in a state (R61): a trigger that does not fire reads only its two
conditions, `LIVE1.FLO` reads only while a sweep is active, channel 3 only while it plays. -/
def subReads (s : State) : Instr → List Addr
  | .trig1 => if Fires s 0 then [0xFF25#16, 0xFF14#16, 0xFF11#16, 0xFF13#16, 0xFF12#16, 0xFF10#16]
    else [0xFF25#16, 0xFF14#16]
  | .trig2 => if Fires s 1 then [0xFF25#16, 0xFF19#16, 0xFF16#16, 0xFF18#16, 0xFF17#16] else [0xFF25#16, 0xFF19#16]
  | .trig3 => [0xFF25#16, 0xFF1E#16]
  | .live1Env => [0xFF12#16]
  | .live1Flo => if s.st0.sweepTime = 0#3 then [] else [0xFF13#16]
  | .gen _ | .gen3 _ => if s.st2.playing = true then
      [0xFF1E#16, 0xFF1D#16, 0xFF1B#16, 0xFF1C#16] ++ (List.range 16).map fun j => BitVec.ofNat 16 (0xFF30 + j)
    else []
  | _ => []

/-- The same for every operation: `POLL` itself reads only the slot, and then what its handler reads (R61). -/
def reads (s : State) : Instr → List Addr
  | .poll => if s.pend = true then subReads s (decodeDispatch s.pendAddr) else []
  | i => subReads s i

/-- Run a list of operations from a state, stopping at the first that does not answer a next state. -/
def runAll : List Instr → State → Option State
  | [], s => some s
  | i :: is, s =>
    match exec i s with
    | .next t => runAll is t
    | _ => none

/-- Samples per period of a square channel: `ceil(44100 * P / 131072)` (R185). -/
def periodSlots (r : ChannelState) : Nat := (44100 * P r + 131071) / 131072

end Sys2Proof.Claims

open Sys2Proof.Claims

/-! ## Encoding -/

/-- Decoding the word of any well-formed operation gives it back, with every operand (R91 to R94, R96, R120). -/
def Obligations.DecodeInvertsEncode : Prop :=
  ∀ i : Instr, WellFormed i → decode (encode i) = .ok i

/-- A command word that decodes has one meaning: what it decodes to is well formed and encodes to that very word. -/
def Obligations.CommandWordHasOneMeaning : Prop :=
  ∀ (w : CommandWord) (i : Instr), decodeCommand w = .ok i → WellFormed i ∧ encode i = .command w

/-- The decoders follow the opcode table's own matching rule: the first row with `(w & mask) == match` applies (R120). -/
def Obligations.DecodersFollowOpcodeTable : Prop :=
  (∀ w : CommandWord, firstRow commandTable w = (decodeCommand w).toOption.map Instr.mnemonic) ∧
  (∀ a : Addr, firstRow dispatchTable a = some (decodeDispatch a).mnemonic)

/-- Words written out from the formats of R92 to R94 and the map of R96 decode to their operations. -/
def Obligations.WrittenOutWordsDecode : Prop :=
  decode (.command 0x00FF12F3#32) = .ok (.wrCh1Env 0xF3#8) ∧
  decode (.command 0x00FF3C76#32) = .ok (.wrWave 12#4 0x76#8) ∧
  decode (.command 0x001234AB#32) = .ok (.wrOther 0x1234#16 0xAB#8) ∧
  decode (.command 0x40000000#32) = .ok .poll ∧
  decode (.command 0x80000800#32) = .ok (.gen 2048#16) ∧
  decode (.command 0x8001113A#32) = .ok (.gen1 4410#16) ∧
  decode (.command 0x80022B16#32) = .ok (.gen2 11030#16) ∧
  decode (.command 0x800300AF#32) = .ok (.gen3 175#16) ∧
  decode (.dispatch 0xFF19#16) = .ok .trig2 ∧
  decode (.dispatch 0xFF13#16) = .ok .live1Flo ∧
  decode (.dispatch 0xFF25#16) = .ok .noroute

/-! ## The step -/

/-- A step runs the decoded command: the word is taken from the waiting commands and the operation runs on what is left;
with no command waiting nothing happens (the model's choice, log entry 1, from R37). -/
def Obligations.StepRunsDecodedCommand : Prop :=
  (∀ (s : State) (w : CommandWord) (rest : List CommandWord) (i : Instr),
    s.commands = w :: rest → decodeCommand w = .ok i → step s = exec i { s with commands := rest }) ∧
  (∀ s : State, s.commands = [] → step s = .next s)

/-- `step` refuses exactly the reserved words, by name, and answers a next state otherwise (R95, R240; R95 is D8). -/
def Obligations.StepRefusesExactlyReservedWords : Prop :=
  ∀ (s : State) (w : CommandWord) (rest : List CommandWord), s.commands = w :: rest →
    (Reserved w → ∃ why, step s = .refused (.reservedWord why w)) ∧ (¬ Reserved w → ∃ t, step s = .next t)

/-- Every operation is total (R240): one successor for every state and operand, no fault, and a refusal only of a word that
does not decode. -/
def Obligations.EveryOperationIsTotal : Prop :=
  (∀ (i : Instr) (s : State), ∃ t, exec i s = .next t) ∧
  (∀ (s : State) (r : Fault), step s ≠ .fault r) ∧
  (∀ (s : State) (r : Refusal), step s = .refused r →
    ∃ w rest why, s.commands = w :: rest ∧ decodeCommand w = .error why ∧ r = .reservedWord why w)

/-- A program of decodable words runs to its end from every state, one operation a word (R91, R71; the waiting list is the
model's, log entry 1). -/
def Obligations.ProgramsRunToTheirEnd : Prop :=
  ∀ (s : State), (∀ w ∈ s.commands, ∃ i, decodeCommand w = .ok i) →
    ∃ t, core.run s.commands.length s = .next t ∧ t.commands = []

/-- A placed opcode-table word is what the very next step runs: a 32-bit word as a command, a 16-bit dispatch address
through the `POLL` that decodes it (the model's placement, log entry 4). -/
def Obligations.PlacedWordRunsNext : Prop :=
  (∀ (s : State) (w : Nat) (i : Instr), decodeTableWord 32 w = some i → step (s.withFetchWord 32 w) = exec i s) ∧
  (∀ (s : State) (a : Addr) (i : Instr), decodeTableWord 16 a.toNat = some i →
    step (s.withFetchWord 16 a.toNat) = exec i { s with pend := false, pendAddr := a })

/-! ## Register writes -/

/-- Every `WR` stores its byte at its register's address, signals, and changes nothing else (R130, R63, R72; that every
address signals is D11, the addresses are D5). -/
def Obligations.RegisterWritesStoreAndSignal : Prop :=
  ∀ d : Byte,
    WritesRegister (.wrCh1Sweep d) 0xFF10#16 d ∧ WritesRegister (.wrCh1Duty d) 0xFF11#16 d ∧
    WritesRegister (.wrCh1Env d) 0xFF12#16 d ∧ WritesRegister (.wrCh1Flo d) 0xFF13#16 d ∧
    WritesRegister (.wrCh1Fhi d) 0xFF14#16 d ∧ WritesRegister (.wrCh2Duty d) 0xFF16#16 d ∧
    WritesRegister (.wrCh2Env d) 0xFF17#16 d ∧ WritesRegister (.wrCh2Flo d) 0xFF18#16 d ∧
    WritesRegister (.wrCh2Fhi d) 0xFF19#16 d ∧ WritesRegister (.wrCh3On d) 0xFF1A#16 d ∧
    WritesRegister (.wrCh3Len d) 0xFF1B#16 d ∧ WritesRegister (.wrCh3Level d) 0xFF1C#16 d ∧
    WritesRegister (.wrCh3Flo d) 0xFF1D#16 d ∧ WritesRegister (.wrCh3Fhi d) 0xFF1E#16 d ∧
    WritesRegister (.wrOutSel d) 0xFF25#16 d ∧
    (∀ j : BitVec 4, WritesRegister (.wrWave j d) (BitVec.ofNat 16 (0xFF30 + j.toNat)) d) ∧
    (∀ a : Addr, WritesRegister (.wrOther a d) a d)

/-- `MemRead` after any sequence of writes from reset gives the byte last written to the address, or its open `REG_INIT`
byte if none was (R62; D10, D25). -/
def Obligations.ReadGivesLastWriteOrInitialByte : Prop :=
  ∀ (ws : List (Addr × Byte)) (a : Addr), ∃ t,
    runAll (ws.map fun p => wr p.1 p.2) .reset = some t ∧
      t.memRead a = ((ws.reverse.find? fun p => p.1 == a).map Prod.snd).getD (Config.regInit a)

/-! ## The dispatcher -/

/-- `POLL` with an update pending clears `pend` and runs the sub-operation its address decodes to, in one step (R131, R96;
D5, D12). -/
def Obligations.PollRunsDecodedHandler : Prop :=
  ∀ s : State, s.pend = true → exec .poll s = exec (decodeDispatch s.pendAddr) { s with pend := false }

/-- `POLL` without an update has no effect, so a second `POLL` right after a first never has one (R132). -/
def Obligations.PollWithoutUpdateHasNoEffect : Prop :=
  (∀ s : State, s.pend = false → exec .poll s = .next s) ∧
  (∀ s : State, ∃ t, exec .poll s = .next t ∧ exec .poll t = .next t)

/-- The frame of a `POLL` that consumes an update: `pend` is cleared, and beyond it only the record whose handler the
address selects can change; never the address, the store, channel 4, a stream or the waiting commands (R131, R134). -/
def Obligations.PollConsumesAndFrames : Prop :=
  ∀ s : State, s.pend = true → ∃ t, exec .poll s = .next t ∧
    t.pend = false ∧ t.pendAddr = s.pendAddr ∧ t.store = s.store ∧ t.commands = s.commands ∧
    t.out1 = s.out1 ∧ t.out2 = s.out2 ∧ t.out3 = s.out3 ∧ t.st3 = s.st3 ∧
    (s.pendAddr ≠ 0xFF12#16 → s.pendAddr ≠ 0xFF13#16 → s.pendAddr ≠ 0xFF14#16 → t.st0 = s.st0) ∧
    (s.pendAddr ≠ 0xFF19#16 → t.st1 = s.st1) ∧ (s.pendAddr ≠ 0xFF1E#16 → t.st2 = s.st2)

/-- `LIVE1.SWEEP`, `LIVE1.DUTY` and `NOROUTE` have no effect, and a `POLL` of any address but the five that do something
only consumes the update (R139, R170, R171; D12). -/
def Obligations.UnroutedUpdatesAreOnlyConsumed : Prop :=
  (∀ s : State, exec .live1Sweep s = .next s ∧ exec .live1Duty s = .next s ∧ exec .noroute s = .next s) ∧
  (∀ s : State, s.pend = true →
    s.pendAddr ∉ ([0xFF12#16, 0xFF13#16, 0xFF14#16, 0xFF19#16, 0xFF1E#16] : List Addr) →
    exec .poll s = .next { s with pend := false })

/-- The slot's protocol: a `WR` sets the flag and the address, a `POLL` clears the flag and keeps the address (R38, R131), and
no other operation touches either. The last is read from what the rules say each operation writes (R160 to R162, R195, R196,
R221); that a sub-operation standing alone leaves the slot is the model's inference, log entry 9. -/
def Obligations.PendingSlotProtocol : Prop :=
  (∀ (a : Addr) (d : Byte) (s : State), ∃ t, exec (wr a d) s = .next t ∧ t.pend = true ∧ t.pendAddr = a) ∧
  (∀ s : State, ∃ t, exec .poll s = .next t ∧ t.pend = false ∧ t.pendAddr = s.pendAddr) ∧
  (∀ (i : Instr) (s t : State), i.isWrite = false → i ≠ .poll → exec i s = .next t →
    t.pend = s.pend ∧ t.pendAddr = s.pendAddr)

/-- Lost update (R135, D9): of two writes with no `POLL` between them only the second address is dispatched; the first byte
stays in the store unless both writes name one address (R136). -/
def Obligations.SecondWriteDisplacesFirst : Prop :=
  ∀ (a b : Addr) (d e : Byte) (s : State), ∃ t u, exec (wr a d) s = .next t ∧ exec (wr b e) t = .next u ∧
    exec .poll u = exec (decodeDispatch b) { u with pend := false } ∧
    u.memRead b = e ∧ u.memRead a = (if a = b then e else d)

/-! ## Triggers and live updates -/

/-- `TRIG1` that fires latches every field of channel 1 from its registers and changes nothing else (R160; the counters'
reset is D14, the note length D2 and D19). -/
def Obligations.Trig1LatchesChannel1 : Prop :=
  ∀ s : State, Fires s 0 → ∃ r, exec .trig1 s = .next { s with st0 := r } ∧
    SquareLatched s 0xFF11#16 0xFF12#16 0xFF13#16 0xFF14#16 r ∧
    r.sweepTime.toNat = byteAt s 0xFF10#16 / 16 % 8 ∧
    r.sweepDirection = decide (byteAt s 0xFF10#16 / 8 % 2 = 1) ∧
    r.sweepStep.toNat = byteAt s 0xFF10#16 % 8 ∧ r.sweepCounter = 0 ∧ r.waveShift = s.st0.waveShift

/-- `TRIG2` that fires latches channel 2 from its own registers, without a sweep, and changes nothing else (R161; D14, D2,
D19). -/
def Obligations.Trig2LatchesChannel2 : Prop :=
  ∀ s : State, Fires s 1 → ∃ r, exec .trig2 s = .next { s with st1 := r } ∧
    SquareLatched s 0xFF16#16 0xFF17#16 0xFF18#16 0xFF19#16 r ∧
    r.sweepTime = s.st1.sweepTime ∧ r.sweepDirection = s.st1.sweepDirection ∧ r.sweepStep = s.st1.sweepStep ∧
    r.sweepCounter = s.st1.sweepCounter ∧ r.waveShift = s.st1.waveShift

/-- `TRIG3` that fires resets phase and duration and starts the channel; nothing is latched (R162, D21). -/
def Obligations.Trig3OnlyRestartsChannel3 : Prop :=
  ∀ s : State, Fires s 2 →
    exec .trig3 s = .next { s with st2 := { s.st2 with freqDist := 0, duration := .zero, playing := true } }

/-- A trigger whose conditions fail has no effect: a playing channel keeps playing (R152; the conditions are read at
dispatch, D10). -/
def Obligations.TriggerNotFiringHasNoEffect : Prop :=
  ∀ (s : State) (c : Fin 3), ¬ Fires s c → exec (trigOf c) s = .next s

/-- The duty decode and the frequency decode of both square channels (R154, R156). -/
def Obligations.DutyAndFrequencyDecode : Prop :=
  (∀ s : State, Fires s 0 → ∃ t, exec .trig1 s = .next t ∧
    (t.st0.dutyStart.toNat, t.st0.dutyEnd.toNat) = dutyTable (byteAt s 0xFF11#16 / 64) ∧
    t.st0.rawFrequency.toNat = codeAt s 0xFF14#16 0xFF13#16 ∧
    Reference.frequency t.st0.rawFrequency = 4194304 / (32 * (2048 - (codeAt s 0xFF14#16 0xFF13#16 : ℚ)))) ∧
  (∀ s : State, Fires s 1 → ∃ t, exec .trig2 s = .next t ∧
    (t.st1.dutyStart.toNat, t.st1.dutyEnd.toNat) = dutyTable (byteAt s 0xFF16#16 / 64) ∧
    t.st1.rawFrequency.toNat = codeAt s 0xFF19#16 0xFF18#16 ∧
    Reference.frequency t.st1.rawFrequency = 4194304 / (32 * (2048 - (codeAt s 0xFF19#16 0xFF18#16 : ℚ)))) ∧
  Reference.frequency 0#11 = 64 ∧ Reference.frequency 2047#11 = 131072

/-- A trigger that fires assigns the same whether the channel was playing or off (R163). -/
def Obligations.RetriggerAssignsTheSame : Prop :=
  ∀ (s : State) (c : Fin 3), Fires s c → ∃ t, (chan t c).playing = true ∧ (chan t c).freqDist = 0 ∧
    ∀ on : Bool, exec (trigOf c) (withChan s c { chan s c with playing := on }) = .next t

/-- `LIVE1.ENV` re-arms the envelope only on a transition of the step from 0 to non-zero, and otherwise has no effect
(R172). -/
def Obligations.LiveEnvelopeRearmsOnlyFromZero : Prop :=
  ∀ s : State,
    (s.st0.envelopeStep = 0#3 → byteAt s 0xFF12#16 % 8 ≠ 0 → ∃ r, exec .live1Env s = .next { s with st0 := r } ∧
      r = { s.st0 with
        volume := r.volume, envelopeDirection := r.envelopeDirection, envelopeStep := r.envelopeStep,
        envelopeCounter := 0 } ∧
      r.volume.toNat = byteAt s 0xFF12#16 / 16 ∧
      r.envelopeDirection = decide (byteAt s 0xFF12#16 / 8 % 2 = 1) ∧
      r.envelopeStep.toNat = byteAt s 0xFF12#16 % 8) ∧
    (¬ (s.st0.envelopeStep = 0#3 ∧ byteAt s 0xFF12#16 % 8 ≠ 0) → exec .live1Env s = .next s)

/-- `LIVE1.FLO` replaces the low eight bits of the code while a sweep is active, that is while `sweep_time ≥ 1` (D13), and
otherwise has no effect (R173). -/
def Obligations.LiveFrequencyLowOnlyDuringSweep : Prop :=
  ∀ s : State,
    (1 ≤ s.st0.sweepTime.toNat → ∃ code, exec .live1Flo s = .next { s with st0 := { s.st0 with rawFrequency := code } } ∧
      code.toNat = s.st0.rawFrequency.toNat / 256 * 256 + byteAt s 0xFF13#16) ∧
    (s.st0.sweepTime.toNat = 0 → exec .live1Flo s = .next s)

/-! ## Generators: requests -/

/-- A request emits exactly the samples asked for on its own stream and changes nothing but its own record and stream
(R181, D27). -/
def Obligations.RequestEmitsExactlyItsSamples : Prop :=
  (∀ (n : BitVec 16) (s : State) (c : Fin 3), ∃ r vs, vs.length = n.toNat ∧
    exec (genOf c n) s = .next (withEmitted (withChan s c r) c vs)) ∧
  (∀ (n : BitVec 16) (s : State), ∃ r1 r2 r3 v1 v2 v3,
    v1.length = n.toNat ∧ v2.length = n.toNat ∧ v3.length = n.toNat ∧
    exec (.gen n) s = .next { s with
      st0 := r1, st1 := r2, st2 := r3, out1 := s.out1 ++ v1, out2 := s.out2 ++ v2, out3 := s.out3 ++ v3 })

/-- `GEN n` does to each channel what that channel's own request does; the three are independent (R181, D27). -/
def Obligations.GenRunsTheThreeGenerators : Prop :=
  ∀ (n : BitVec 16) (s : State), ∃ t1 t2 t3,
    exec (.gen1 n) s = .next t1 ∧ exec (.gen2 n) s = .next t2 ∧ exec (.gen3 n) s = .next t3 ∧
    exec (.gen n) s = .next { s with
      st0 := t1.st0, out1 := t1.out1, st1 := t2.st1, out2 := t2.out2, st2 := t3.st2, out3 := t3.out3 }

/-- An off channel emits the silence floor for the whole span and nothing of it changes (R182, R223). -/
def Obligations.OffChannelEmitsSilence : Prop :=
  ∀ (n : BitVec 16) (s : State) (c : Fin 3), (chan s c).playing = false →
    exec (genOf c n) s = .next (withEmitted s c (List.replicate n.toNat (BitVec.ofInt 16 (-32768))))

/-- Right after reset, whatever the store holds, a request of all channels emits silence and changes no state (R46, R271). -/
def Obligations.ResetIsSilent : Prop :=
  ∀ (n : BitVec 16) (m : Memory), exec (.gen n) { State.reset with store := m } = .next { State.reset with
    store := m
    out1 := List.replicate n.toNat (BitVec.ofInt 16 (-32768))
    out2 := List.replicate n.toNat (BitVec.ofInt 16 (-32768))
    out3 := List.replicate n.toNat (BitVec.ofInt 16 (-32768)) }

/-- Splitting a request of channel 1 or 2 changes nothing (R199), nor one of channel 3 with no `WR` or trigger between the
parts (R231). -/
def Obligations.RequestsSplit : Prop :=
  ∀ (n m : BitVec 16) (s : State) (c : Fin 3), n.toNat + m.toNat < 65536 →
    ∃ t, exec (genOf c n) s = .next t ∧ exec (genOf c m) t = exec (genOf c (n + m)) s

/-- Requests of different channels commute: their order does not matter (R181, D27). -/
def Obligations.GeneratorsCommute : Prop :=
  ∀ (n m : BitVec 16) (s : State) (c d : Fin 3), c ≠ d → ∃ t u v,
    exec (genOf c n) s = .next t ∧ exec (genOf d m) t = .next v ∧
    exec (genOf d m) s = .next u ∧ exec (genOf c n) u = .next v

/-! ## Generators: slots -/

/-- The slot after a finite note emits one silent sample and turns the channel off; every later slot is silent (R183, R224;
D20). -/
def Obligations.FiniteNoteEndsSilently : Prop :=
  ∀ (n : BitVec 16) (s : State) (c : Fin 3) (r : ChannelState), 1 ≤ n.toNat →
    (chan s c).playing = true → StartsFrom s c r → Ended r →
    exec (genOf c n) s =
      .next (withEmitted (withChan s c { r with playing := false }) c
        (List.replicate n.toNat (BitVec.ofInt 16 (-32768))))

/-- Phase, countdown and reload of one waveform slot, for every channel: the phase counts up and wraps at the period of the
code the slot starts with, and an indefinite note is reloaded at 0 (R184, R185, R194, R225; D1, D18, D19). -/
def Obligations.WaveformSlotAdvancesPhaseAndCountsDown : Prop :=
  ∀ (s : State) (c : Fin 3) (r : ChannelState), StartsFrom s c r → InWaveform r →
    ∃ t, exec (genOf c 1#16) s = .next t ∧
      (chan t c).freqDist =
        (if 44100 * P r ≤ (r.freqDist + 1) * phaseScale c then 0 else r.freqDist + 1) ∧
      (chan t c).sampleLength = (if r.sampleLength = 0 then 220500 else r.sampleLength) - 1 ∧
      (chan t c).duration = r.duration ∧ (chan t c).dutyStart = r.dutyStart ∧ (chan t c).dutyEnd = r.dutyEnd ∧
      (chan t c).waveShift = r.waveShift

/-- The sweep of one waveform slot of channel 1: cadence, the two directions and the overflow that stops the channel
(R187, R188; D15 to D17, D31). -/
def Obligations.SweepCadenceAndEvent : Prop :=
  ∀ s : State, InWaveform s.st0 → ∃ t, exec (.gen1 1#16) s = .next t ∧
    (s.st0.sweepTime = 0#3 → t.st0.sweepCounter = s.st0.sweepCounter) ∧
    (s.st0.sweepTime ≠ 0#3 → ¬ SweepDue s.st0 → t.st0.sweepCounter = s.st0.sweepCounter + 1) ∧
    (¬ SweepDue s.st0 → t.st0.rawFrequency = s.st0.rawFrequency) ∧
    (SweepDue s.st0 → t.st0.sweepCounter = 0) ∧
    (SweepDue s.st0 → s.st0.sweepDirection = true →
      t.st0.rawFrequency.toNat = s.st0.rawFrequency.toNat - sweepAmount s.st0) ∧
    (SweepDue s.st0 → s.st0.sweepDirection = false → ¬ Overflows s.st0 →
      t.st0.rawFrequency.toNat = s.st0.rawFrequency.toNat + sweepAmount s.st0) ∧
    (Overflows s.st0 → t.st0.rawFrequency = s.st0.rawFrequency ∧ t.st0.volume = 0#4 ∧ t.st0.sweepStep = 0#3 ∧
      t.st0.envelopeStep = 0#3 ∧ t.st0.sweepTime = 0#3 ∧ t.st0.playing = false ∧
      t.st0.envelopeCounter = s.st0.envelopeCounter ∧ t.out1 = s.out1 ++ [BitVec.ofInt 16 (-32768)]) ∧
    (¬ Overflows s.st0 → t.st0.playing = true ∧ t.st0.sweepStep = s.st0.sweepStep ∧
      t.st0.sweepTime = s.st0.sweepTime ∧ t.st0.envelopeStep = s.st0.envelopeStep) ∧
    t.st0.sweepDirection = s.st0.sweepDirection ∧ t.st0.envelopeDirection = s.st0.envelopeDirection

/-- An envelope event steps the volume by one and saturates at 0 and 15; at a bound the envelope keeps running (R190).
For channel 1 in a slot without a sweep overflow, for channel 2 in every slot. -/
def Obligations.EnvelopeEventSaturates : Prop :=
  ∀ (s : State) (c : Fin 3), c ≠ 2 → InWaveform (chan s c) → (c = 0 → ¬ Overflows (chan s c)) →
    EnvelopeDue (chan s c) → ∃ t, exec (genOf c 1#16) s = .next t ∧
      ((chan s c).envelopeDirection = true → (chan t c).volume.toNat = min 15 ((chan s c).volume.toNat + 1)) ∧
      ((chan s c).envelopeDirection = false → (chan t c).volume.toNat = (chan s c).volume.toNat - 1) ∧
      (chan t c).envelopeStep = (chan s c).envelopeStep ∧ (chan t c).envelopeCounter = 0

/-- Between its events the envelope only counts, and without a step it does not even count (R189; D16). -/
def Obligations.EnvelopeCadence : Prop :=
  ∀ (s : State) (c : Fin 3), c ≠ 2 → InWaveform (chan s c) → (c = 0 → ¬ Overflows (chan s c)) →
    ¬ EnvelopeDue (chan s c) → ∃ t, exec (genOf c 1#16) s = .next t ∧
      (chan t c).volume = (chan s c).volume ∧ (chan t c).envelopeStep = (chan s c).envelopeStep ∧
      (chan t c).envelopeCounter =
        (if (chan s c).envelopeStep = 0#3 then (chan s c).envelopeCounter else (chan s c).envelopeCounter + 1)

/-- The sample of a waveform slot of a square channel: `floor(32767 * volume / 16)` inside the duty window at volume 1 or
more, the floor otherwise, with the code and the volume as the slot's sweep and envelope have left them (R191 to R193; D1,
D4, D30). -/
def Obligations.SquareSampleUsesUpdatedCodeAndVolume : Prop :=
  ∀ (s : State) (c : Fin 3), c ≠ 2 → InWaveform (chan s c) → ∃ t v, exec (genOf c 1#16) s = .next t ∧
    stream t c = stream s c ++ [v] ∧
    (v.toInt =
      if 44100 * P (chan t c) * (chan t c).dutyStart.toNat ≤ (chan t c).freqDist * 2 ^ 20 ∧
          (chan t c).freqDist * 2 ^ 20 < 44100 * P (chan t c) * (chan t c).dutyEnd.toNat ∧
          1 ≤ (chan t c).volume.toNat
      then ((32767 * (chan t c).volume.toNat / 16 : Nat) : Int) else -32768)

/-- Every `GEN3` call while channel 3 plays re-derives code, duration, note length (only if the duration changed) and shift
from the registers: its slots start from the re-derived record, whose code, duration and shift the call leaves, and a call
of no samples leaves that record. While the channel is off a call re-derives nothing (R221, R222; D21 to D23). -/
def Obligations.WaveCallRederives : Prop :=
  ∀ s : State,
    (s.st2.playing = true → ∃ r, Rederived s r ∧ exec (.gen3 0#16) s = .next { s with st2 := r } ∧
      ∀ n : BitVec 16, ∃ t, exec (.gen3 n) s = .next t ∧ exec (.gen3 n) { s with st2 := r } = .next t ∧
        t.st2.rawFrequency = r.rawFrequency ∧ t.st2.duration = r.duration ∧ t.st2.waveShift = r.waveShift) ∧
    (s.st2.playing = false → exec (.gen3 0#16) s = .next s ∧
      ∀ n : BitVec 16, ∃ t, exec (.gen3 n) s = .next t ∧ t.st2 = s.st2)

/-- The sample of a waveform slot of channel 3: the playback pointer from the phase, the nibble of the wave table's byte
(high for even, low for odd), shifted by `wave_shift` and scaled to `MIN + 4369 * nibble`, the note's count down by one; the
`mod 32` never changes the pointer, and a period of at most one slot keeps phase and pointer at 0 (R225 to R228). A note
whose count is 0 here is indefinite and is reloaded to 220500 first (R224, the spec's decision D19). -/
def Obligations.WaveSampleFromTable : Prop :=
  ∀ (s : State) (r : ChannelState), StartsFrom s 2 r → InWaveform r → ∃ t v idx b,
    exec (.gen3 1#16) s = .next t ∧ t.out3 = s.out3 ++ [v] ∧
    idx = ⌊(t.st2.freqDist : ℚ) / Reference.waveStep t.st2.rawFrequency⌋.toNat % 32 ∧
    idx = t.st2.freqDist * 2 ^ 21 / (44100 * P t.st2) % 32 ∧
    t.st2.freqDist * 2 ^ 21 / (44100 * P t.st2) < 32 ∧
    (44100 * P t.st2 ≤ 65536 → t.st2.freqDist = 0 ∧ idx = 0) ∧
    b = byteAt s (BitVec.ofNat 16 (0xFF30 + idx / 2)) ∧
    v.toInt = -32768 + 4369 *
      (((if idx % 2 = 0 then b / 16 else b % 16) / 2 ^ t.st2.waveShift.toNat : Nat) : Int) ∧
    t.st2.sampleLength = (if r.sampleLength = 0 then 220500 else r.sampleLength) - 1

/-! ## Generators: whole notes -/

/-- A finite note of `S` samples plays `S` slots, then ends: after `n ≤ S` slots it still plays with `S − n` left, after
more it is off, and every sample from slot `S + 1` on is silent. For channel 1 without an increasing sweep (R183, R197;
D20). -/
def Obligations.FiniteNoteLastsItsLength : Prop :=
  ∀ (n : BitVec 16) (s : State) (c : Fin 3) (r : ChannelState), StartsFrom s c r →
    r.playing = true → r.duration ≠ .indefinite → (c = 0 → r.sweepTime = 0#3 ∨ r.sweepDirection = true) →
    ∃ t vs, exec (genOf c n) s = .next t ∧ stream t c = stream s c ++ vs ∧
      (n.toNat ≤ r.sampleLength →
        (chan t c).playing = true ∧ (chan t c).sampleLength = r.sampleLength - n.toNat) ∧
      (r.sampleLength < n.toNat → (chan t c).playing = false ∧ (chan t c).sampleLength = 0) ∧
      vs.drop r.sampleLength = List.replicate (n.toNat - r.sampleLength) (BitVec.ofInt 16 (-32768))

/-- An indefinite note plays on through any request; for channel 1 without an increasing sweep (R184, R197; D19). -/
def Obligations.IndefiniteNotePlaysOn : Prop :=
  ∀ (n : BitVec 16) (s : State) (c : Fin 3) (r : ChannelState), StartsFrom s c r →
    r.playing = true → r.duration = .indefinite → (c = 0 → r.sweepTime = 0#3 ∨ r.sweepDirection = true) →
    ∃ t, exec (genOf c n) s = .next t ∧ (chan t c).playing = true ∧ (chan t c).duration = .indefinite

/-- The waveform repeats every `ceil(freq_samples)` samples (R185; D1, D18): on an indefinite note with a constant volume
and no sweep the phase is the count of slots modulo that period, and each sample returns one period later. -/
def Obligations.SquareWaveformIsPeriodic : Prop :=
  ∀ (n : BitVec 16) (s : State) (c : Fin 3), c ≠ 2 → (chan s c).playing = true →
    (chan s c).duration = .indefinite → (chan s c).envelopeStep = 0#3 → (chan s c).sweepTime = 0#3 →
    (chan s c).freqDist < periodSlots (chan s c) →
    ∃ t vs, exec (genOf c n) s = .next t ∧ stream t c = stream s c ++ vs ∧
      (chan t c).freqDist = ((chan s c).freqDist + n.toNat) % periodSlots (chan s c) ∧
      ∀ k, k + periodSlots (chan s c) < n.toNat → vs[k + periodSlots (chan s c)]? = vs[k]?

/-- A decreasing sweep never raises the code and never stops the channel: over any request, of a finite or an indefinite
note, the code does not grow, the sweep's settings stay, and a playing channel is off afterwards only because its finite
note has ended (R188, R183; D15, D20). -/
def Obligations.DecreasingSweepNeverStops : Prop :=
  ∀ (n : BitVec 16) (s : State), s.st0.sweepDirection = true →
    ∃ t, exec (.gen1 n) s = .next t ∧ t.st0.rawFrequency.toNat ≤ s.st0.rawFrequency.toNat ∧
      t.st0.sweepDirection = true ∧ t.st0.sweepTime = s.st0.sweepTime ∧ t.st0.sweepStep = s.st0.sweepStep ∧
      (s.st0.playing = true →
        (t.st0.playing = true ↔ s.st0.duration = .indefinite ∨ n.toNat ≤ s.st0.sampleLength))

/-- With `envelope_step = 0` the volume never changes, across any request; for channel 1 unless a sweep overflow silences it
(R189; D16). -/
def Obligations.NoEnvelopeKeepsVolume : Prop :=
  ∀ (n : BitVec 16) (s : State) (c : Fin 3), c ≠ 2 → (chan s c).envelopeStep = 0#3 →
    ∃ t, exec (genOf c n) s = .next t ∧ (chan t c).envelopeStep = 0#3 ∧
      (chan t c).envelopeCounter = (chan s c).envelopeCounter ∧
      ((chan t c).volume = (chan s c).volume ∨ (c = 0 ∧ (chan t c).volume = 0#4 ∧ (chan t c).playing = false))

/-- The square generators compute the source's own formulas in exact rationals: frequency in Hz, period in samples, the
sweep and envelope thresholds, the duty window and the amplitude, sample for sample and field for field (R195, R196, R8,
R9; D1, D2, D4). -/
def Obligations.SquareGeneratorsMeetRationalFormulas : Prop :=
  (∀ (n : BitVec 16) (s : State), ∃ vs,
    exec (.gen1 n) s = .next { s with
      st0 := (Reference.slots Reference.slot1 n.toNat s.st0).1, out1 := s.out1 ++ vs } ∧
    vs.map BitVec.toInt = (Reference.slots Reference.slot1 n.toNat s.st0).2) ∧
  (∀ (n : BitVec 16) (s : State), ∃ vs,
    exec (.gen2 n) s = .next { s with
      st1 := (Reference.slots Reference.slot2 n.toNat s.st1).1, out2 := s.out2 ++ vs } ∧
    vs.map BitVec.toInt = (Reference.slots Reference.slot2 n.toNat s.st1).2)

/-- The wavetable generator computes the source's formulas in exact rationals from the re-derived record and the wave table
(R229, R8, R9; D1). -/
def Obligations.WaveGeneratorMeetsRationalFormulas : Prop :=
  ∀ (n : BitVec 16) (s : State) (r : ChannelState), StartsFrom s 2 r → ∃ vs,
    exec (.gen3 n) s = .next { s with
      st2 := (Reference.slots (Reference.slot3 fun j => s.memRead (BitVec.ofNat 16 (0xFF30 + j))) n.toNat r).1
      out3 := s.out3 ++ vs } ∧
    vs.map BitVec.toInt =
      (Reference.slots (Reference.slot3 fun j => s.memRead (BitVec.ofNat 16 (0xFF30 + j))) n.toNat r).2

/-- The tagged duration stands for its milliseconds (R23): the note lengths the model uses are `floor(ms * SR / 1000)`, and
two legal durations are equal exactly when their milliseconds are, so the comparisons of the rules come out the same. -/
def Obligations.DurationTagStandsForMilliseconds : Prop :=
  (∀ d : Duration, Duration.samples psg d = Reference.noteSamples d) ∧
  (∀ d e : Duration, d.legal 256 = true → e.legal 256 = true →
    (Reference.durationMs d = Reference.durationMs e ↔ d = e))

/-! ## The whole machine -/

/-- `playing` changes only as R25 says: to true only by that channel's trigger firing, to false only by that channel's
generator, and there in one slot exactly when a finite note ends or the sweep overflows. -/
def Obligations.PlayingChangesOnlyByTriggerAndGenerator : Prop :=
  (∀ (c : Fin 3) (i : Instr) (s t : State), exec i s = .next t →
    (chan s c).playing = false → (chan t c).playing = true →
    (i = trigOf c ∨ (i = .poll ∧ s.pend = true ∧ s.pendAddr = fhiOf c)) ∧ Fires s c) ∧
  (∀ (c : Fin 3) (i : Instr) (s t : State), exec i s = .next t →
    (chan s c).playing = true → (chan t c).playing = false → ∃ n, i = .gen n ∨ i = genOf c n) ∧
  (∀ (c : Fin 3) (s : State) (r : ChannelState), StartsFrom s c r → r.playing = true →
    ∃ t, exec (genOf c 1#16) s = .next t ∧
      ((chan t c).playing = false ↔ Ended r ∨ (c = 0 ∧ ¬ Ended r ∧ Overflows r)))

/-- Channel 2 has no live update of any kind: outside its generator its record changes only by a `TRIG2` that fires
(R284). -/
def Obligations.Channel2ChangesOnlyByItsTrigger : Prop :=
  ∀ (i : Instr) (s t : State), exec i s = .next t → (∀ n, i ≠ .gen n ∧ i ≠ .gen2 n) → t.st1 ≠ s.st1 →
    (i = .trig2 ∨ (i = .poll ∧ s.pend = true ∧ s.pendAddr = 0xFF19#16)) ∧ Fires s 1

/-- Channel 4's record never changes (R36, D26). -/
def Obligations.Channel4NeverChanges : Prop :=
  ∀ (s t : State), step s = .next t → t.st3 = s.st3

/-- `WR` is the only writer of the store, and every operation reads only the addresses R61 lists for it: with those bytes
the same, another store gives the same result. `GEN1` and `GEN2` read none. -/
def Obligations.OperationsReadOnlyTheirRegisters : Prop :=
  (∀ (i : Instr) (s t : State), exec i s = .next t → i.isWrite = false → t.store = s.store) ∧
  (∀ (i : Instr) (s t : State) (m : Memory), exec i s = .next t → i.isWrite = false →
    (∀ a ∈ reads s i, ({ s with store := m } : State).memRead a = s.memRead a) →
    exec i { s with store := m } = .next { t with store := m })

/-- Who writes what: a `WR` changes no channel record (R72), nothing but the audio backend's requests emits samples, and
those touch neither the slot nor the store (R250, D9). -/
def Obligations.AgentsKeepToTheirState : Prop :=
  ∀ (i : Instr) (s t : State), exec i s = .next t →
    (i.isWrite = true → t.st0 = s.st0 ∧ t.st1 = s.st1 ∧ t.st2 = s.st2 ∧ t.st3 = s.st3) ∧
    (i.issuer ≠ some .backend → t.out1 = s.out1 ∧ t.out2 = s.out2 ∧ t.out3 = s.out3) ∧
    (i.issuer = some .backend → t.pend = s.pend ∧ t.pendAddr = s.pendAddr ∧ t.store = s.store)

/-- The streams only grow: what has been emitted stays (R47). -/
def Obligations.StreamsOnlyGrow : Prop :=
  ∀ (s t : State), step s = .next t → s.out1 <+: t.out1 ∧ s.out2 <+: t.out2 ∧ s.out3 <+: t.out3

/-! ## Invariants -/

/-- Every step keeps the invariant of R43 with the counter bounds and the canonical form of the store. -/
def Obligations.StepKeepsInvariant : Prop :=
  ∀ (s t : State), Inv s → step s = .next t → Inv t

/-- The invariant holds after reset. -/
def Obligations.ResetMeetsInvariant : Prop :=
  Inv State.reset ∧ UnusedFieldsReset State.reset ∧ StreamsLegal State.reset

/-- A field a channel has no use for is never written and keeps its reset value 0 (R44). -/
def Obligations.StepKeepsUnusedFieldsReset : Prop :=
  UnusedFieldsReset State.reset ∧ ∀ (s t : State), UnusedFieldsReset s → step s = .next t → UnusedFieldsReset t

/-- Every sample ever emitted is one its channel can emit: no step of any kind emits another value (R193, R228, R242). -/
def Obligations.StepKeepsStreamsLegal : Prop :=
  ∀ (s t : State), StreamsLegal s → step s = .next t → StreamsLegal t

/-- After a waveform slot of channel 2 or 3 the phase is below the period of the record's code, and of channel 1 unless a
sweep event raised the code in that slot; an increase by 0 raises nothing (R43(f), `90_conflicts.md` C6). -/
def Obligations.PhaseIsBelowPeriodAfterSlot : Prop :=
  ∀ (s : State) (c : Fin 3) (r : ChannelState), StartsFrom s c r → InWaveform r →
    (c = 0 → ¬ SweepDue r ∨ r.sweepDirection = true ∨ Overflows r ∨ sweepAmount r = 0) →
    ∃ t, exec (genOf c 1#16) s = .next t ∧
      (chan t c).freqDist * phaseScale c < 44100 * P (chan t c)

/-! ## Programs of the trace syntax -/

/-- `NOTE1 f, fin`, `NOTE2 f, fin` and `NOTE3 f, fin` (R119, D8) start their note from every state in which the channel is
enabled: it plays from phase 0, the square channels at code `f` and with the duration `fin` selects. -/
def Obligations.NotesStartTheirChannel : Prop :=
  ∀ (f : BitVec 11) (fin : BitVec 1) (s : State) (c : Fin 3),
    (byteAt s 0xFF25#16 / 2 ^ c.val % 2 = 1 ∨ byteAt s 0xFF25#16 / 2 ^ (c.val + 4) % 2 = 1) →
    ∃ t, runAll (match c with
        | 0 => (Pseudo.note1 f fin).expand
        | 1 => (Pseudo.note2 f fin).expand
        | 2 => (Pseudo.note3 f fin).expand) s = some t ∧
      (chan t c).playing = true ∧ (chan t c).freqDist = 0 ∧
      (c ≠ 2 → (chan t c).rawFrequency = f) ∧
      (c ≠ 2 → ((chan t c).duration = .indefinite ↔ fin = 0#1)) ∧ t.pend = false

/-- `WAVELOAD b0, ..., b15` leaves the sixteen bytes in the wave table: entry `2j` of the table channel 3 plays is then the
high nibble of byte `j` and entry `2j + 1` its low nibble (R119, R65, R115; the addresses are D5). -/
def Obligations.WaveloadFillsTheTable : Prop :=
  ∀ (bytes : Vector Byte 16) (s : State), ∃ t, runAll (Pseudo.waveload bytes).expand s = some t ∧
    (∀ j : Fin 16, t.memRead (BitVec.ofNat 16 (0xFF30 + j.val)) = bytes[j] ∧
      (nibble (2 * j.val) (t.waveByte j.val)).toNat = bytes[j].toNat / 16 ∧
      (nibble (2 * j.val + 1) (t.waveByte j.val)).toNat = bytes[j].toNat % 16) ∧
    t.st0 = s.st0 ∧ t.st1 = s.st1 ∧ t.st2 = s.st2
end

