-- ==== Sys2Proof/Laws/State.lean ====
section
/-! SUPPORT. What each named update of a State or of a channel record does to each field, true by rfl, so that no later
proof unfolds a record update. -/

namespace Sys2Proof.Machine

section StateUpdates

variable (s : State) (r : ChannelState) (a b : Addr) (v : Byte) (vs : List Sample) (w : CommandWord)
  (ws : List CommandWord)

@[simp] theorem State.memWrite_st0 : (s.memWrite a v).st0 = s.st0 := rfl
@[simp] theorem State.memWrite_st1 : (s.memWrite a v).st1 = s.st1 := rfl
@[simp] theorem State.memWrite_st2 : (s.memWrite a v).st2 = s.st2 := rfl
@[simp] theorem State.memWrite_st3 : (s.memWrite a v).st3 = s.st3 := rfl
@[simp] theorem State.memWrite_pend : (s.memWrite a v).pend = s.pend := rfl
@[simp] theorem State.memWrite_pendAddr : (s.memWrite a v).pendAddr = s.pendAddr := rfl
@[simp] theorem State.memWrite_store : (s.memWrite a v).store = Memory.insert s.store a.toNat v := rfl
@[simp] theorem State.memWrite_out1 : (s.memWrite a v).out1 = s.out1 := rfl
@[simp] theorem State.memWrite_out2 : (s.memWrite a v).out2 = s.out2 := rfl
@[simp] theorem State.memWrite_out3 : (s.memWrite a v).out3 = s.out3 := rfl
@[simp] theorem State.memWrite_commands : (s.memWrite a v).commands = s.commands := rfl

@[simp] theorem State.signal_st0 : (s.signal a).st0 = s.st0 := rfl
@[simp] theorem State.signal_st1 : (s.signal a).st1 = s.st1 := rfl
@[simp] theorem State.signal_st2 : (s.signal a).st2 = s.st2 := rfl
@[simp] theorem State.signal_st3 : (s.signal a).st3 = s.st3 := rfl
@[simp] theorem State.signal_pend : (s.signal a).pend = true := rfl
@[simp] theorem State.signal_pendAddr : (s.signal a).pendAddr = a := rfl
@[simp] theorem State.signal_store : (s.signal a).store = s.store := rfl
@[simp] theorem State.signal_out1 : (s.signal a).out1 = s.out1 := rfl
@[simp] theorem State.signal_out2 : (s.signal a).out2 = s.out2 := rfl
@[simp] theorem State.signal_out3 : (s.signal a).out3 = s.out3 := rfl
@[simp] theorem State.signal_commands : (s.signal a).commands = s.commands := rfl
@[simp] theorem State.signal_memRead : (s.signal a).memRead b = s.memRead b := rfl

@[simp] theorem State.consume_st0 : s.consume.st0 = s.st0 := rfl
@[simp] theorem State.consume_st1 : s.consume.st1 = s.st1 := rfl
@[simp] theorem State.consume_st2 : s.consume.st2 = s.st2 := rfl
@[simp] theorem State.consume_st3 : s.consume.st3 = s.st3 := rfl
@[simp] theorem State.consume_pend : s.consume.pend = false := rfl
@[simp] theorem State.consume_pendAddr : s.consume.pendAddr = s.pendAddr := rfl
@[simp] theorem State.consume_store : s.consume.store = s.store := rfl
@[simp] theorem State.consume_out1 : s.consume.out1 = s.out1 := rfl
@[simp] theorem State.consume_out2 : s.consume.out2 = s.out2 := rfl
@[simp] theorem State.consume_out3 : s.consume.out3 = s.out3 := rfl
@[simp] theorem State.consume_commands : s.consume.commands = s.commands := rfl
@[simp] theorem State.consume_memRead : s.consume.memRead b = s.memRead b := rfl

@[simp] theorem State.setCh1_st0 : (s.setCh1 r).st0 = r := rfl
@[simp] theorem State.setCh1_st1 : (s.setCh1 r).st1 = s.st1 := rfl
@[simp] theorem State.setCh1_st2 : (s.setCh1 r).st2 = s.st2 := rfl
@[simp] theorem State.setCh1_st3 : (s.setCh1 r).st3 = s.st3 := rfl
@[simp] theorem State.setCh1_pend : (s.setCh1 r).pend = s.pend := rfl
@[simp] theorem State.setCh1_pendAddr : (s.setCh1 r).pendAddr = s.pendAddr := rfl
@[simp] theorem State.setCh1_store : (s.setCh1 r).store = s.store := rfl
@[simp] theorem State.setCh1_out1 : (s.setCh1 r).out1 = s.out1 := rfl
@[simp] theorem State.setCh1_out2 : (s.setCh1 r).out2 = s.out2 := rfl
@[simp] theorem State.setCh1_out3 : (s.setCh1 r).out3 = s.out3 := rfl
@[simp] theorem State.setCh1_commands : (s.setCh1 r).commands = s.commands := rfl
@[simp] theorem State.setCh1_memRead : (s.setCh1 r).memRead b = s.memRead b := rfl

@[simp] theorem State.setCh2_st0 : (s.setCh2 r).st0 = s.st0 := rfl
@[simp] theorem State.setCh2_st1 : (s.setCh2 r).st1 = r := rfl
@[simp] theorem State.setCh2_st2 : (s.setCh2 r).st2 = s.st2 := rfl
@[simp] theorem State.setCh2_st3 : (s.setCh2 r).st3 = s.st3 := rfl
@[simp] theorem State.setCh2_pend : (s.setCh2 r).pend = s.pend := rfl
@[simp] theorem State.setCh2_pendAddr : (s.setCh2 r).pendAddr = s.pendAddr := rfl
@[simp] theorem State.setCh2_store : (s.setCh2 r).store = s.store := rfl
@[simp] theorem State.setCh2_out1 : (s.setCh2 r).out1 = s.out1 := rfl
@[simp] theorem State.setCh2_out2 : (s.setCh2 r).out2 = s.out2 := rfl
@[simp] theorem State.setCh2_out3 : (s.setCh2 r).out3 = s.out3 := rfl
@[simp] theorem State.setCh2_commands : (s.setCh2 r).commands = s.commands := rfl
@[simp] theorem State.setCh2_memRead : (s.setCh2 r).memRead b = s.memRead b := rfl

@[simp] theorem State.setCh3_st0 : (s.setCh3 r).st0 = s.st0 := rfl
@[simp] theorem State.setCh3_st1 : (s.setCh3 r).st1 = s.st1 := rfl
@[simp] theorem State.setCh3_st2 : (s.setCh3 r).st2 = r := rfl
@[simp] theorem State.setCh3_st3 : (s.setCh3 r).st3 = s.st3 := rfl
@[simp] theorem State.setCh3_pend : (s.setCh3 r).pend = s.pend := rfl
@[simp] theorem State.setCh3_pendAddr : (s.setCh3 r).pendAddr = s.pendAddr := rfl
@[simp] theorem State.setCh3_store : (s.setCh3 r).store = s.store := rfl
@[simp] theorem State.setCh3_out1 : (s.setCh3 r).out1 = s.out1 := rfl
@[simp] theorem State.setCh3_out2 : (s.setCh3 r).out2 = s.out2 := rfl
@[simp] theorem State.setCh3_out3 : (s.setCh3 r).out3 = s.out3 := rfl
@[simp] theorem State.setCh3_commands : (s.setCh3 r).commands = s.commands := rfl
@[simp] theorem State.setCh3_memRead : (s.setCh3 r).memRead b = s.memRead b := rfl

@[simp] theorem State.emit1_st0 : (s.emit1 vs).st0 = s.st0 := rfl
@[simp] theorem State.emit1_st1 : (s.emit1 vs).st1 = s.st1 := rfl
@[simp] theorem State.emit1_st2 : (s.emit1 vs).st2 = s.st2 := rfl
@[simp] theorem State.emit1_st3 : (s.emit1 vs).st3 = s.st3 := rfl
@[simp] theorem State.emit1_pend : (s.emit1 vs).pend = s.pend := rfl
@[simp] theorem State.emit1_pendAddr : (s.emit1 vs).pendAddr = s.pendAddr := rfl
@[simp] theorem State.emit1_store : (s.emit1 vs).store = s.store := rfl
@[simp] theorem State.emit1_out1 : (s.emit1 vs).out1 = s.out1 ++ vs := rfl
@[simp] theorem State.emit1_out2 : (s.emit1 vs).out2 = s.out2 := rfl
@[simp] theorem State.emit1_out3 : (s.emit1 vs).out3 = s.out3 := rfl
@[simp] theorem State.emit1_commands : (s.emit1 vs).commands = s.commands := rfl
@[simp] theorem State.emit1_memRead : (s.emit1 vs).memRead b = s.memRead b := rfl

@[simp] theorem State.emit2_st0 : (s.emit2 vs).st0 = s.st0 := rfl
@[simp] theorem State.emit2_st1 : (s.emit2 vs).st1 = s.st1 := rfl
@[simp] theorem State.emit2_st2 : (s.emit2 vs).st2 = s.st2 := rfl
@[simp] theorem State.emit2_st3 : (s.emit2 vs).st3 = s.st3 := rfl
@[simp] theorem State.emit2_pend : (s.emit2 vs).pend = s.pend := rfl
@[simp] theorem State.emit2_pendAddr : (s.emit2 vs).pendAddr = s.pendAddr := rfl
@[simp] theorem State.emit2_store : (s.emit2 vs).store = s.store := rfl
@[simp] theorem State.emit2_out1 : (s.emit2 vs).out1 = s.out1 := rfl
@[simp] theorem State.emit2_out2 : (s.emit2 vs).out2 = s.out2 ++ vs := rfl
@[simp] theorem State.emit2_out3 : (s.emit2 vs).out3 = s.out3 := rfl
@[simp] theorem State.emit2_commands : (s.emit2 vs).commands = s.commands := rfl
@[simp] theorem State.emit2_memRead : (s.emit2 vs).memRead b = s.memRead b := rfl

@[simp] theorem State.emit3_st0 : (s.emit3 vs).st0 = s.st0 := rfl
@[simp] theorem State.emit3_st1 : (s.emit3 vs).st1 = s.st1 := rfl
@[simp] theorem State.emit3_st2 : (s.emit3 vs).st2 = s.st2 := rfl
@[simp] theorem State.emit3_st3 : (s.emit3 vs).st3 = s.st3 := rfl
@[simp] theorem State.emit3_pend : (s.emit3 vs).pend = s.pend := rfl
@[simp] theorem State.emit3_pendAddr : (s.emit3 vs).pendAddr = s.pendAddr := rfl
@[simp] theorem State.emit3_store : (s.emit3 vs).store = s.store := rfl
@[simp] theorem State.emit3_out1 : (s.emit3 vs).out1 = s.out1 := rfl
@[simp] theorem State.emit3_out2 : (s.emit3 vs).out2 = s.out2 := rfl
@[simp] theorem State.emit3_out3 : (s.emit3 vs).out3 = s.out3 ++ vs := rfl
@[simp] theorem State.emit3_commands : (s.emit3 vs).commands = s.commands := rfl
@[simp] theorem State.emit3_memRead : (s.emit3 vs).memRead b = s.memRead b := rfl

@[simp] theorem State.placeCommand_st0 : (s.placeCommand w).st0 = s.st0 := rfl
@[simp] theorem State.placeCommand_st1 : (s.placeCommand w).st1 = s.st1 := rfl
@[simp] theorem State.placeCommand_st2 : (s.placeCommand w).st2 = s.st2 := rfl
@[simp] theorem State.placeCommand_st3 : (s.placeCommand w).st3 = s.st3 := rfl
@[simp] theorem State.placeCommand_pend : (s.placeCommand w).pend = s.pend := rfl
@[simp] theorem State.placeCommand_pendAddr : (s.placeCommand w).pendAddr = s.pendAddr := rfl
@[simp] theorem State.placeCommand_store : (s.placeCommand w).store = s.store := rfl
@[simp] theorem State.placeCommand_out1 : (s.placeCommand w).out1 = s.out1 := rfl
@[simp] theorem State.placeCommand_out2 : (s.placeCommand w).out2 = s.out2 := rfl
@[simp] theorem State.placeCommand_out3 : (s.placeCommand w).out3 = s.out3 := rfl
@[simp] theorem State.placeCommand_commands : (s.placeCommand w).commands = w :: s.commands := rfl
@[simp] theorem State.placeCommand_memRead : (s.placeCommand w).memRead b = s.memRead b := rfl

@[simp] theorem State.setCommands_st0 : (s.setCommands ws).st0 = s.st0 := rfl
@[simp] theorem State.setCommands_st1 : (s.setCommands ws).st1 = s.st1 := rfl
@[simp] theorem State.setCommands_st2 : (s.setCommands ws).st2 = s.st2 := rfl
@[simp] theorem State.setCommands_st3 : (s.setCommands ws).st3 = s.st3 := rfl
@[simp] theorem State.setCommands_pend : (s.setCommands ws).pend = s.pend := rfl
@[simp] theorem State.setCommands_pendAddr : (s.setCommands ws).pendAddr = s.pendAddr := rfl
@[simp] theorem State.setCommands_store : (s.setCommands ws).store = s.store := rfl
@[simp] theorem State.setCommands_out1 : (s.setCommands ws).out1 = s.out1 := rfl
@[simp] theorem State.setCommands_out2 : (s.setCommands ws).out2 = s.out2 := rfl
@[simp] theorem State.setCommands_out3 : (s.setCommands ws).out3 = s.out3 := rfl
@[simp] theorem State.setCommands_commands : (s.setCommands ws).commands = ws := rfl
@[simp] theorem State.setCommands_memRead : (s.setCommands ws).memRead b = s.memRead b := rfl

end StateUpdates

section RecordUpdates

variable (cfg : Config) (scale : Nat) (duty env flo fhi sweep : Byte) (r : ChannelState)

@[simp] theorem phaseAdvance_playing : (phaseAdvance cfg scale r).playing = r.playing := rfl
@[simp] theorem phaseAdvance_rawFrequency : (phaseAdvance cfg scale r).rawFrequency = r.rawFrequency := rfl
@[simp] theorem phaseAdvance_duration : (phaseAdvance cfg scale r).duration = r.duration := rfl
@[simp] theorem phaseAdvance_sampleLength : (phaseAdvance cfg scale r).sampleLength = r.sampleLength := rfl
@[simp] theorem phaseAdvance_freqDist : (phaseAdvance cfg scale r).freqDist =
    if cfg.sr * r.periodCode ≤ (r.freqDist + 1) * scale then 0 else r.freqDist + 1 := rfl
@[simp] theorem phaseAdvance_volume : (phaseAdvance cfg scale r).volume = r.volume := rfl
@[simp] theorem phaseAdvance_dutyStart : (phaseAdvance cfg scale r).dutyStart = r.dutyStart := rfl
@[simp] theorem phaseAdvance_dutyEnd : (phaseAdvance cfg scale r).dutyEnd = r.dutyEnd := rfl
@[simp] theorem phaseAdvance_envelopeDirection : (phaseAdvance cfg scale r).envelopeDirection =
    r.envelopeDirection := rfl
@[simp] theorem phaseAdvance_envelopeStep : (phaseAdvance cfg scale r).envelopeStep = r.envelopeStep := rfl
@[simp] theorem phaseAdvance_envelopeCounter : (phaseAdvance cfg scale r).envelopeCounter = r.envelopeCounter := rfl
@[simp] theorem phaseAdvance_sweepDirection : (phaseAdvance cfg scale r).sweepDirection = r.sweepDirection := rfl
@[simp] theorem phaseAdvance_sweepStep : (phaseAdvance cfg scale r).sweepStep = r.sweepStep := rfl
@[simp] theorem phaseAdvance_sweepTime : (phaseAdvance cfg scale r).sweepTime = r.sweepTime := rfl
@[simp] theorem phaseAdvance_sweepCounter : (phaseAdvance cfg scale r).sweepCounter = r.sweepCounter := rfl
@[simp] theorem phaseAdvance_waveShift : (phaseAdvance cfg scale r).waveShift = r.waveShift := rfl

@[simp] theorem reloadLength_playing : (reloadLength cfg r).playing = r.playing := rfl
@[simp] theorem reloadLength_rawFrequency : (reloadLength cfg r).rawFrequency = r.rawFrequency := rfl
@[simp] theorem reloadLength_duration : (reloadLength cfg r).duration = r.duration := rfl
@[simp] theorem reloadLength_sampleLength : (reloadLength cfg r).sampleLength =
    if r.sampleLength = 0 then Duration.samples cfg .indefinite else r.sampleLength := rfl
@[simp] theorem reloadLength_freqDist : (reloadLength cfg r).freqDist = r.freqDist := rfl
@[simp] theorem reloadLength_volume : (reloadLength cfg r).volume = r.volume := rfl
@[simp] theorem reloadLength_dutyStart : (reloadLength cfg r).dutyStart = r.dutyStart := rfl
@[simp] theorem reloadLength_dutyEnd : (reloadLength cfg r).dutyEnd = r.dutyEnd := rfl
@[simp] theorem reloadLength_envelopeDirection : (reloadLength cfg r).envelopeDirection = r.envelopeDirection := rfl
@[simp] theorem reloadLength_envelopeStep : (reloadLength cfg r).envelopeStep = r.envelopeStep := rfl
@[simp] theorem reloadLength_envelopeCounter : (reloadLength cfg r).envelopeCounter = r.envelopeCounter := rfl
@[simp] theorem reloadLength_sweepDirection : (reloadLength cfg r).sweepDirection = r.sweepDirection := rfl
@[simp] theorem reloadLength_sweepStep : (reloadLength cfg r).sweepStep = r.sweepStep := rfl
@[simp] theorem reloadLength_sweepTime : (reloadLength cfg r).sweepTime = r.sweepTime := rfl
@[simp] theorem reloadLength_sweepCounter : (reloadLength cfg r).sweepCounter = r.sweepCounter := rfl
@[simp] theorem reloadLength_waveShift : (reloadLength cfg r).waveShift = r.waveShift := rfl

@[simp] theorem countDown_playing : (countDown r).playing = r.playing := rfl
@[simp] theorem countDown_rawFrequency : (countDown r).rawFrequency = r.rawFrequency := rfl
@[simp] theorem countDown_duration : (countDown r).duration = r.duration := rfl
@[simp] theorem countDown_sampleLength : (countDown r).sampleLength = r.sampleLength - 1 := rfl
@[simp] theorem countDown_freqDist : (countDown r).freqDist = r.freqDist := rfl
@[simp] theorem countDown_volume : (countDown r).volume = r.volume := rfl
@[simp] theorem countDown_dutyStart : (countDown r).dutyStart = r.dutyStart := rfl
@[simp] theorem countDown_dutyEnd : (countDown r).dutyEnd = r.dutyEnd := rfl
@[simp] theorem countDown_envelopeDirection : (countDown r).envelopeDirection = r.envelopeDirection := rfl
@[simp] theorem countDown_envelopeStep : (countDown r).envelopeStep = r.envelopeStep := rfl
@[simp] theorem countDown_envelopeCounter : (countDown r).envelopeCounter = r.envelopeCounter := rfl
@[simp] theorem countDown_sweepDirection : (countDown r).sweepDirection = r.sweepDirection := rfl
@[simp] theorem countDown_sweepStep : (countDown r).sweepStep = r.sweepStep := rfl
@[simp] theorem countDown_sweepTime : (countDown r).sweepTime = r.sweepTime := rfl
@[simp] theorem countDown_sweepCounter : (countDown r).sweepCounter = r.sweepCounter := rfl
@[simp] theorem countDown_waveShift : (countDown r).waveShift = r.waveShift := rfl

@[simp] theorem turnOff_playing : (turnOff r).playing = false := rfl
@[simp] theorem turnOff_rawFrequency : (turnOff r).rawFrequency = r.rawFrequency := rfl
@[simp] theorem turnOff_duration : (turnOff r).duration = r.duration := rfl
@[simp] theorem turnOff_sampleLength : (turnOff r).sampleLength = r.sampleLength := rfl
@[simp] theorem turnOff_freqDist : (turnOff r).freqDist = r.freqDist := rfl
@[simp] theorem turnOff_volume : (turnOff r).volume = r.volume := rfl
@[simp] theorem turnOff_dutyStart : (turnOff r).dutyStart = r.dutyStart := rfl
@[simp] theorem turnOff_dutyEnd : (turnOff r).dutyEnd = r.dutyEnd := rfl
@[simp] theorem turnOff_envelopeDirection : (turnOff r).envelopeDirection = r.envelopeDirection := rfl
@[simp] theorem turnOff_envelopeStep : (turnOff r).envelopeStep = r.envelopeStep := rfl
@[simp] theorem turnOff_envelopeCounter : (turnOff r).envelopeCounter = r.envelopeCounter := rfl
@[simp] theorem turnOff_sweepDirection : (turnOff r).sweepDirection = r.sweepDirection := rfl
@[simp] theorem turnOff_sweepStep : (turnOff r).sweepStep = r.sweepStep := rfl
@[simp] theorem turnOff_sweepTime : (turnOff r).sweepTime = r.sweepTime := rfl
@[simp] theorem turnOff_sweepCounter : (turnOff r).sweepCounter = r.sweepCounter := rfl
@[simp] theorem turnOff_waveShift : (turnOff r).waveShift = r.waveShift := rfl

@[simp] theorem commonReset_playing : (commonReset r).playing = true := rfl
@[simp] theorem commonReset_rawFrequency : (commonReset r).rawFrequency = r.rawFrequency := rfl
@[simp] theorem commonReset_duration : (commonReset r).duration = .zero := rfl
@[simp] theorem commonReset_sampleLength : (commonReset r).sampleLength = r.sampleLength := rfl
@[simp] theorem commonReset_freqDist : (commonReset r).freqDist = 0 := rfl
@[simp] theorem commonReset_volume : (commonReset r).volume = r.volume := rfl
@[simp] theorem commonReset_dutyStart : (commonReset r).dutyStart = r.dutyStart := rfl
@[simp] theorem commonReset_dutyEnd : (commonReset r).dutyEnd = r.dutyEnd := rfl
@[simp] theorem commonReset_envelopeDirection : (commonReset r).envelopeDirection = r.envelopeDirection := rfl
@[simp] theorem commonReset_envelopeStep : (commonReset r).envelopeStep = r.envelopeStep := rfl
@[simp] theorem commonReset_envelopeCounter : (commonReset r).envelopeCounter = r.envelopeCounter := rfl
@[simp] theorem commonReset_sweepDirection : (commonReset r).sweepDirection = r.sweepDirection := rfl
@[simp] theorem commonReset_sweepStep : (commonReset r).sweepStep = r.sweepStep := rfl
@[simp] theorem commonReset_sweepTime : (commonReset r).sweepTime = r.sweepTime := rfl
@[simp] theorem commonReset_sweepCounter : (commonReset r).sweepCounter = r.sweepCounter := rfl
@[simp] theorem commonReset_waveShift : (commonReset r).waveShift = r.waveShift := rfl

@[simp] theorem latchDuty_playing : (latchDuty duty r).playing = r.playing := rfl
@[simp] theorem latchDuty_rawFrequency : (latchDuty duty r).rawFrequency = r.rawFrequency := rfl
@[simp] theorem latchDuty_duration : (latchDuty duty r).duration = r.duration := rfl
@[simp] theorem latchDuty_sampleLength : (latchDuty duty r).sampleLength = r.sampleLength := rfl
@[simp] theorem latchDuty_freqDist : (latchDuty duty r).freqDist = r.freqDist := rfl
@[simp] theorem latchDuty_volume : (latchDuty duty r).volume = r.volume := rfl
@[simp] theorem latchDuty_dutyStart : (latchDuty duty r).dutyStart = (dutyPair (dutySelector duty)).1 := rfl
@[simp] theorem latchDuty_dutyEnd : (latchDuty duty r).dutyEnd = (dutyPair (dutySelector duty)).2 := rfl
@[simp] theorem latchDuty_envelopeDirection : (latchDuty duty r).envelopeDirection = r.envelopeDirection := rfl
@[simp] theorem latchDuty_envelopeStep : (latchDuty duty r).envelopeStep = r.envelopeStep := rfl
@[simp] theorem latchDuty_envelopeCounter : (latchDuty duty r).envelopeCounter = r.envelopeCounter := rfl
@[simp] theorem latchDuty_sweepDirection : (latchDuty duty r).sweepDirection = r.sweepDirection := rfl
@[simp] theorem latchDuty_sweepStep : (latchDuty duty r).sweepStep = r.sweepStep := rfl
@[simp] theorem latchDuty_sweepTime : (latchDuty duty r).sweepTime = r.sweepTime := rfl
@[simp] theorem latchDuty_sweepCounter : (latchDuty duty r).sweepCounter = r.sweepCounter := rfl
@[simp] theorem latchDuty_waveShift : (latchDuty duty r).waveShift = r.waveShift := rfl

@[simp] theorem latchDuration_playing : (latchDuration cfg duty fhi r).playing = r.playing := rfl
@[simp] theorem latchDuration_rawFrequency : (latchDuration cfg duty fhi r).rawFrequency = r.rawFrequency := rfl
@[simp] theorem latchDuration_duration : (latchDuration cfg duty fhi r).duration = squareDuration duty fhi := rfl
@[simp] theorem latchDuration_sampleLength : (latchDuration cfg duty fhi r).sampleLength =
    Duration.samples cfg (squareDuration duty fhi) := rfl
@[simp] theorem latchDuration_freqDist : (latchDuration cfg duty fhi r).freqDist = r.freqDist := rfl
@[simp] theorem latchDuration_volume : (latchDuration cfg duty fhi r).volume = r.volume := rfl
@[simp] theorem latchDuration_dutyStart : (latchDuration cfg duty fhi r).dutyStart = r.dutyStart := rfl
@[simp] theorem latchDuration_dutyEnd : (latchDuration cfg duty fhi r).dutyEnd = r.dutyEnd := rfl
@[simp] theorem latchDuration_envelopeDirection : (latchDuration cfg duty fhi r).envelopeDirection =
    r.envelopeDirection := rfl
@[simp] theorem latchDuration_envelopeStep : (latchDuration cfg duty fhi r).envelopeStep = r.envelopeStep := rfl
@[simp] theorem latchDuration_envelopeCounter : (latchDuration cfg duty fhi r).envelopeCounter =
    r.envelopeCounter := rfl
@[simp] theorem latchDuration_sweepDirection : (latchDuration cfg duty fhi r).sweepDirection = r.sweepDirection := rfl
@[simp] theorem latchDuration_sweepStep : (latchDuration cfg duty fhi r).sweepStep = r.sweepStep := rfl
@[simp] theorem latchDuration_sweepTime : (latchDuration cfg duty fhi r).sweepTime = r.sweepTime := rfl
@[simp] theorem latchDuration_sweepCounter : (latchDuration cfg duty fhi r).sweepCounter = r.sweepCounter := rfl
@[simp] theorem latchDuration_waveShift : (latchDuration cfg duty fhi r).waveShift = r.waveShift := rfl

@[simp] theorem latchFrequency_playing : (latchFrequency fhi flo r).playing = r.playing := rfl
@[simp] theorem latchFrequency_rawFrequency : (latchFrequency fhi flo r).rawFrequency = frequencyCode fhi flo := rfl
@[simp] theorem latchFrequency_duration : (latchFrequency fhi flo r).duration = r.duration := rfl
@[simp] theorem latchFrequency_sampleLength : (latchFrequency fhi flo r).sampleLength = r.sampleLength := rfl
@[simp] theorem latchFrequency_freqDist : (latchFrequency fhi flo r).freqDist = r.freqDist := rfl
@[simp] theorem latchFrequency_volume : (latchFrequency fhi flo r).volume = r.volume := rfl
@[simp] theorem latchFrequency_dutyStart : (latchFrequency fhi flo r).dutyStart = r.dutyStart := rfl
@[simp] theorem latchFrequency_dutyEnd : (latchFrequency fhi flo r).dutyEnd = r.dutyEnd := rfl
@[simp] theorem latchFrequency_envelopeDirection : (latchFrequency fhi flo r).envelopeDirection =
    r.envelopeDirection := rfl
@[simp] theorem latchFrequency_envelopeStep : (latchFrequency fhi flo r).envelopeStep = r.envelopeStep := rfl
@[simp] theorem latchFrequency_envelopeCounter : (latchFrequency fhi flo r).envelopeCounter = r.envelopeCounter := rfl
@[simp] theorem latchFrequency_sweepDirection : (latchFrequency fhi flo r).sweepDirection = r.sweepDirection := rfl
@[simp] theorem latchFrequency_sweepStep : (latchFrequency fhi flo r).sweepStep = r.sweepStep := rfl
@[simp] theorem latchFrequency_sweepTime : (latchFrequency fhi flo r).sweepTime = r.sweepTime := rfl
@[simp] theorem latchFrequency_sweepCounter : (latchFrequency fhi flo r).sweepCounter = r.sweepCounter := rfl
@[simp] theorem latchFrequency_waveShift : (latchFrequency fhi flo r).waveShift = r.waveShift := rfl

@[simp] theorem latchEnvelope_playing : (latchEnvelope env r).playing = r.playing := rfl
@[simp] theorem latchEnvelope_rawFrequency : (latchEnvelope env r).rawFrequency = r.rawFrequency := rfl
@[simp] theorem latchEnvelope_duration : (latchEnvelope env r).duration = r.duration := rfl
@[simp] theorem latchEnvelope_sampleLength : (latchEnvelope env r).sampleLength = r.sampleLength := rfl
@[simp] theorem latchEnvelope_freqDist : (latchEnvelope env r).freqDist = r.freqDist := rfl
@[simp] theorem latchEnvelope_volume : (latchEnvelope env r).volume = volumeField env := rfl
@[simp] theorem latchEnvelope_dutyStart : (latchEnvelope env r).dutyStart = r.dutyStart := rfl
@[simp] theorem latchEnvelope_dutyEnd : (latchEnvelope env r).dutyEnd = r.dutyEnd := rfl
@[simp] theorem latchEnvelope_envelopeDirection : (latchEnvelope env r).envelopeDirection =
    envDirectionField env := rfl
@[simp] theorem latchEnvelope_envelopeStep : (latchEnvelope env r).envelopeStep = envStepField env := rfl
@[simp] theorem latchEnvelope_envelopeCounter : (latchEnvelope env r).envelopeCounter = 0 := rfl
@[simp] theorem latchEnvelope_sweepDirection : (latchEnvelope env r).sweepDirection = r.sweepDirection := rfl
@[simp] theorem latchEnvelope_sweepStep : (latchEnvelope env r).sweepStep = r.sweepStep := rfl
@[simp] theorem latchEnvelope_sweepTime : (latchEnvelope env r).sweepTime = r.sweepTime := rfl
@[simp] theorem latchEnvelope_sweepCounter : (latchEnvelope env r).sweepCounter = r.sweepCounter := rfl
@[simp] theorem latchEnvelope_waveShift : (latchEnvelope env r).waveShift = r.waveShift := rfl

@[simp] theorem latchSweep_playing : (latchSweep sweep r).playing = r.playing := rfl
@[simp] theorem latchSweep_rawFrequency : (latchSweep sweep r).rawFrequency = r.rawFrequency := rfl
@[simp] theorem latchSweep_duration : (latchSweep sweep r).duration = r.duration := rfl
@[simp] theorem latchSweep_sampleLength : (latchSweep sweep r).sampleLength = r.sampleLength := rfl
@[simp] theorem latchSweep_freqDist : (latchSweep sweep r).freqDist = r.freqDist := rfl
@[simp] theorem latchSweep_volume : (latchSweep sweep r).volume = r.volume := rfl
@[simp] theorem latchSweep_dutyStart : (latchSweep sweep r).dutyStart = r.dutyStart := rfl
@[simp] theorem latchSweep_dutyEnd : (latchSweep sweep r).dutyEnd = r.dutyEnd := rfl
@[simp] theorem latchSweep_envelopeDirection : (latchSweep sweep r).envelopeDirection = r.envelopeDirection := rfl
@[simp] theorem latchSweep_envelopeStep : (latchSweep sweep r).envelopeStep = r.envelopeStep := rfl
@[simp] theorem latchSweep_envelopeCounter : (latchSweep sweep r).envelopeCounter = r.envelopeCounter := rfl
@[simp] theorem latchSweep_sweepDirection : (latchSweep sweep r).sweepDirection = sweepDirectionField sweep := rfl
@[simp] theorem latchSweep_sweepStep : (latchSweep sweep r).sweepStep = sweepStepField sweep := rfl
@[simp] theorem latchSweep_sweepTime : (latchSweep sweep r).sweepTime = sweepTimeField sweep := rfl
@[simp] theorem latchSweep_sweepCounter : (latchSweep sweep r).sweepCounter = 0 := rfl
@[simp] theorem latchSweep_waveShift : (latchSweep sweep r).waveShift = r.waveShift := rfl

@[simp] theorem replaceFlo_playing : (replaceFlo flo r).playing = r.playing := rfl
@[simp] theorem replaceFlo_rawFrequency : (replaceFlo flo r).rawFrequency = replaceLowByte r.rawFrequency flo := rfl
@[simp] theorem replaceFlo_duration : (replaceFlo flo r).duration = r.duration := rfl
@[simp] theorem replaceFlo_sampleLength : (replaceFlo flo r).sampleLength = r.sampleLength := rfl
@[simp] theorem replaceFlo_freqDist : (replaceFlo flo r).freqDist = r.freqDist := rfl
@[simp] theorem replaceFlo_volume : (replaceFlo flo r).volume = r.volume := rfl
@[simp] theorem replaceFlo_dutyStart : (replaceFlo flo r).dutyStart = r.dutyStart := rfl
@[simp] theorem replaceFlo_dutyEnd : (replaceFlo flo r).dutyEnd = r.dutyEnd := rfl
@[simp] theorem replaceFlo_envelopeDirection : (replaceFlo flo r).envelopeDirection = r.envelopeDirection := rfl
@[simp] theorem replaceFlo_envelopeStep : (replaceFlo flo r).envelopeStep = r.envelopeStep := rfl
@[simp] theorem replaceFlo_envelopeCounter : (replaceFlo flo r).envelopeCounter = r.envelopeCounter := rfl
@[simp] theorem replaceFlo_sweepDirection : (replaceFlo flo r).sweepDirection = r.sweepDirection := rfl
@[simp] theorem replaceFlo_sweepStep : (replaceFlo flo r).sweepStep = r.sweepStep := rfl
@[simp] theorem replaceFlo_sweepTime : (replaceFlo flo r).sweepTime = r.sweepTime := rfl
@[simp] theorem replaceFlo_sweepCounter : (replaceFlo flo r).sweepCounter = r.sweepCounter := rfl
@[simp] theorem replaceFlo_waveShift : (replaceFlo flo r).waveShift = r.waveShift := rfl

@[simp] theorem envelopeEvent_playing : (envelopeEvent r).playing = r.playing := rfl
@[simp] theorem envelopeEvent_rawFrequency : (envelopeEvent r).rawFrequency = r.rawFrequency := rfl
@[simp] theorem envelopeEvent_duration : (envelopeEvent r).duration = r.duration := rfl
@[simp] theorem envelopeEvent_sampleLength : (envelopeEvent r).sampleLength = r.sampleLength := rfl
@[simp] theorem envelopeEvent_freqDist : (envelopeEvent r).freqDist = r.freqDist := rfl
@[simp] theorem envelopeEvent_volume : (envelopeEvent r).volume =
    BitVec.ofNat 4 (if r.envelopeDirection = true then min 15 (r.volume.toNat + 1) else r.volume.toNat - 1) := rfl
@[simp] theorem envelopeEvent_dutyStart : (envelopeEvent r).dutyStart = r.dutyStart := rfl
@[simp] theorem envelopeEvent_dutyEnd : (envelopeEvent r).dutyEnd = r.dutyEnd := rfl
@[simp] theorem envelopeEvent_envelopeDirection : (envelopeEvent r).envelopeDirection = r.envelopeDirection := rfl
@[simp] theorem envelopeEvent_envelopeStep : (envelopeEvent r).envelopeStep = r.envelopeStep := rfl
@[simp] theorem envelopeEvent_envelopeCounter : (envelopeEvent r).envelopeCounter = r.envelopeCounter := rfl
@[simp] theorem envelopeEvent_sweepDirection : (envelopeEvent r).sweepDirection = r.sweepDirection := rfl
@[simp] theorem envelopeEvent_sweepStep : (envelopeEvent r).sweepStep = r.sweepStep := rfl
@[simp] theorem envelopeEvent_sweepTime : (envelopeEvent r).sweepTime = r.sweepTime := rfl
@[simp] theorem envelopeEvent_sweepCounter : (envelopeEvent r).sweepCounter = r.sweepCounter := rfl
@[simp] theorem envelopeEvent_waveShift : (envelopeEvent r).waveShift = r.waveShift := rfl

end RecordUpdates

end Sys2Proof.Machine
end

