-- ==== Sys2Proof/Laws/Slots.lean ====
section
/-! SUPPORT. The slots of a request: how many samples they emit, how a request splits, how an invariant of one slot is
one of all, and what one slot can do. -/

namespace Sys2Proof.Machine

section Runs

variable (slot : ChannelState → ChannelState × Sample)

@[simp] theorem runSlots_zero (r : ChannelState) : runSlots slot 0 r = (r, []) := rfl

theorem runSlots_succ (n : Nat) (r : ChannelState) :
    runSlots slot (n + 1) r =
      ((runSlots slot n (slot r).1).1, (slot r).2 :: (runSlots slot n (slot r).1).2) := rfl

@[simp] theorem runSlots_one (r : ChannelState) : runSlots slot 1 r = ((slot r).1, [(slot r).2]) := rfl

@[simp] theorem runSlots_length (n : Nat) (r : ChannelState) : (runSlots slot n r).2.length = n := by
  induction n generalizing r with
  | zero => rfl
  | succ n ih => simp [runSlots_succ, ih]

/-- `n + m` slots are `n` slots and then `m` from the record they leave. -/
theorem runSlots_add (n m : Nat) (r : ChannelState) :
    runSlots slot (n + m) r =
      ((runSlots slot m (runSlots slot n r).1).1,
        (runSlots slot n r).2 ++ (runSlots slot m (runSlots slot n r).1).2) := by
  induction n generalizing r with
  | zero => simp
  | succ n ih => rw [Nat.add_right_comm, runSlots_succ, ih]; simp [runSlots_succ]

/-- What every slot keeps, a request keeps. -/
theorem runSlots_keeps {P : ChannelState → Prop} (h : ∀ r, P r → P (slot r).1) (n : Nat) (r : ChannelState) (hr : P r) :
    P (runSlots slot n r).1 := by
  induction n generalizing r with
  | zero => exact hr
  | succ n ih => exact ih _ (h r hr)

/-- What holds of every sample a slot emits from a good record holds of every sample of a request. -/
theorem runSlots_samples {P : ChannelState → Prop} {Q : Sample → Prop} (h : ∀ r, P r → P (slot r).1)
    (hq : ∀ r, P r → Q (slot r).2) (n : Nat) (r : ChannelState) (hr : P r) :
    ∀ v ∈ (runSlots slot n r).2, Q v := by
  induction n generalizing r with
  | zero => simp
  | succ n ih =>
    intro v hv
    rw [runSlots_succ] at hv
    rcases List.mem_cons.mp hv with rfl | hv
    · exact hq r hr
    · exact ih _ (h r hr) v hv

/-- A record every slot leaves alone, with the same sample each time, gives that sample throughout. -/
theorem runSlots_fixed (v : Sample) (r : ChannelState) (h : slot r = (r, v)) (n : Nat) :
    runSlots slot n r = (r, List.replicate n v) := by
  induction n with
  | zero => rfl
  | succ n ih => rw [runSlots_succ, h, ih]; rfl

end Runs

section OneSlot

variable (cfg : Config) (wave : ChannelState → ChannelState × Sample) (r : ChannelState)

/-- R182, R223: an off channel emits silence and keeps its record. -/
theorem outputSlot_off (h : r.playing = false) : outputSlot cfg wave r = (r, silence cfg) := by
  simp [outputSlot, h]

theorem noteEnded_eq_true : noteEnded r = true ↔ r.sampleLength = 0 ∧ r.duration ≠ .indefinite := by
  simp [noteEnded]

/-- R183, R224: the slot after a finite note turns the channel off. -/
theorem outputSlot_ended (hp : r.playing = true) (h : noteEnded r = true) :
    outputSlot cfg wave r = (turnOff r, silence cfg) := by
  simp [outputSlot, hp, h]

/-- R195, R229: otherwise the slot is a waveform slot between the reload and the countdown. -/
theorem outputSlot_wave (hp : r.playing = true) (h : noteEnded r = false) :
    outputSlot cfg wave r = (countDown (wave (reloadLength cfg r)).1, (wave (reloadLength cfg r)).2) := by
  simp [outputSlot, hp, h]

@[simp] theorem phaseAdvance_periodCode (scale : Nat) : (phaseAdvance cfg scale r).periodCode = r.periodCode := rfl
@[simp] theorem reloadLength_periodCode : (reloadLength cfg r).periodCode = r.periodCode := rfl
@[simp] theorem countDown_periodCode : (countDown r).periodCode = r.periodCode := rfl

/-- The phase after the advance is below the period, or 0 (R185, R225). -/
theorem phaseAdvance_freqDist_cases (scale : Nat) :
    (cfg.sr * r.periodCode ≤ (r.freqDist + 1) * scale ∧ (phaseAdvance cfg scale r).freqDist = 0) ∨
    ((r.freqDist + 1) * scale < cfg.sr * r.periodCode ∧ (phaseAdvance cfg scale r).freqDist = r.freqDist + 1) := by
  by_cases h : cfg.sr * r.periodCode ≤ (r.freqDist + 1) * scale
  · exact .inl ⟨h, if_pos h⟩
  · exact .inr ⟨Nat.lt_of_not_le h, if_neg h⟩

/-- Everything one slot can do. -/
theorem outputSlot_cases :
    (r.playing = false ∧ outputSlot cfg wave r = (r, silence cfg)) ∨
    (r.playing = true ∧ noteEnded r = true ∧ outputSlot cfg wave r = (turnOff r, silence cfg)) ∨
    (r.playing = true ∧ noteEnded r = false ∧
      outputSlot cfg wave r = (countDown (wave (reloadLength cfg r)).1, (wave (reloadLength cfg r)).2)) := by
  cases hp : r.playing with
  | false => exact .inl ⟨rfl, outputSlot_off cfg wave r hp⟩
  | true =>
    cases h : noteEnded r with
    | true => exact .inr (.inl ⟨rfl, rfl, outputSlot_ended cfg wave r hp h⟩)
    | false => exact .inr (.inr ⟨rfl, rfl, outputSlot_wave cfg wave r hp h⟩)

/-- The whole request of an off channel is silence. -/
theorem runSlots_off (h : r.playing = false) (n : Nat) :
    runSlots (outputSlot cfg wave) n r = (r, List.replicate n (silence cfg)) :=
  runSlots_fixed _ _ _ (outputSlot_off cfg wave r h) n

end OneSlot

@[simp] theorem psg_sr : psg.sr = 44100 := rfl
@[simp] theorem psg_indefinite_samples : Duration.samples psg .indefinite = 220500 := rfl
@[simp] theorem silence_psg : silence psg = 0x8000#16 := rfl

end Sys2Proof.Machine
end

