-- ==== Sys2Proof/Laws/Words.lean ====
section
/-! SUPPORT. Words as numbers: an appended word's value, and the fields of a command word as quotients and remainders. -/

namespace Sys2Proof

theorem append_toNat {v w : Nat} (a : BitVec v) (b : BitVec w) :
    (a ++ b).toNat = a.toNat * 2 ^ w + b.toNat := by
  rw [BitVec.toNat_append, ← Nat.shiftLeft_add_eq_or_of_lt b.isLt, Nat.shiftLeft_eq]

theorem extract_toNat {v : Nat} (start len : Nat) (a : BitVec v) :
    (a.extractLsb' start len).toNat = a.toNat / 2 ^ start % 2 ^ len := by
  rw [BitVec.extractLsb'_toNat, Nat.shiftRight_eq_div_pow]

theorem kindField_toNat (w : CommandWord) : (kindField w).toNat = w.toNat / 2 ^ 30 % 2 ^ 2 := extract_toNat ..
theorem writeZeroField_toNat (w : CommandWord) : (writeZeroField w).toNat = w.toNat / 2 ^ 24 % 2 ^ 6 := extract_toNat ..
theorem addrField_toNat (w : CommandWord) : (addrField w).toNat = w.toNat / 2 ^ 8 % 2 ^ 16 := extract_toNat ..
theorem dataField_toNat (w : CommandWord) : (dataField w).toNat = w.toNat / 2 ^ 0 % 2 ^ 8 := extract_toNat ..
theorem pollZeroField_toNat (w : CommandWord) : (pollZeroField w).toNat = w.toNat / 2 ^ 0 % 2 ^ 30 := extract_toNat ..
theorem genZeroField_toNat (w : CommandWord) : (genZeroField w).toNat = w.toNat / 2 ^ 18 % 2 ^ 12 := extract_toNat ..
theorem channelField_toNat (w : CommandWord) : (channelField w).toNat = w.toNat / 2 ^ 16 % 2 ^ 2 := extract_toNat ..
theorem countField_toNat (w : CommandWord) : (countField w).toNat = w.toNat / 2 ^ 0 % 2 ^ 16 := extract_toNat ..

theorem writeWord_toNat (addr : Addr) (data : Byte) :
    (writeWord addr data).toNat = addr.toNat * 2 ^ 8 + data.toNat := by
  simp only [writeWord, append_toNat, BitVec.toNat_ofNat]
  omega

theorem requestWord_toNat (ch : BitVec 2) (n : BitVec 16) :
    (requestWord ch n).toNat = 2 ^ 31 + ch.toNat * 2 ^ 16 + n.toNat := by
  simp only [requestWord, append_toNat, BitVec.toNat_ofNat]
  omega

/-- The fields of a `WR` word (R92). -/
theorem writeWord_fields (addr : Addr) (data : Byte) :
    kindField (writeWord addr data) = 0#2 ∧ writeZeroField (writeWord addr data) = 0#6 ∧
    addrField (writeWord addr data) = addr ∧ dataField (writeWord addr data) = data := by
  have ha := addr.isLt
  have hd := data.isLt
  refine ⟨?_, ?_, ?_, ?_⟩ <;> apply BitVec.eq_of_toNat_eq <;>
    simp only [kindField_toNat, writeZeroField_toNat, addrField_toNat, dataField_toNat, writeWord_toNat,
      BitVec.toNat_ofNat] <;> omega

/-- The fields of a `GEN` word (R94). -/
theorem requestWord_fields (ch : BitVec 2) (n : BitVec 16) :
    kindField (requestWord ch n) = 2#2 ∧ genZeroField (requestWord ch n) = 0#12 ∧
    channelField (requestWord ch n) = ch ∧ countField (requestWord ch n) = n := by
  have hc := ch.isLt
  have hn := n.isLt
  refine ⟨?_, ?_, ?_, ?_⟩ <;> apply BitVec.eq_of_toNat_eq <;>
    simp only [kindField_toNat, genZeroField_toNat, channelField_toNat, countField_toNat, requestWord_toNat,
      BitVec.toNat_ofNat] <;> omega

/-- A `WR` word decodes to the row its address selects. -/
theorem decodeCommand_writeWord (addr : Addr) (data : Byte) :
    decodeCommand (writeWord addr data) = .ok (decodeWrite addr data) := by
  obtain ⟨h1, h2, h3, h4⟩ := writeWord_fields addr data
  simp [decodeCommand, h1, h2, h3, h4]

/-- A `GEN` word decodes to the row its channel selector picks. -/
theorem decodeCommand_requestWord (ch : BitVec 2) (n : BitVec 16) :
    decodeCommand (requestWord ch n) = .ok (decodeRequest ch n) := by
  obtain ⟨h1, h2, h3, h4⟩ := requestWord_fields ch n
  simp [decodeCommand, h1, h2, h3, h4]

end Sys2Proof
end

