-- ==== Sys2Proof/Laws/Exec.lean ====
section
/-! SUPPORT. What an operation and a step can do, said once: the writes, the routes of a POLL, the handlers, and how an
invariant of the operations becomes one of the step. -/

namespace Sys2Proof.Machine

/-- Every `WR` is one register write: its address and its data byte. -/
theorem exec_isWrite {i : Instr} (h : i.isWrite = true) : ∃ a d, ∀ s, exec i s = writeRegister a d s := by
  cases i <;> first | exact ⟨_, _, fun _ => rfl⟩ | cases h

/-- A register write stores the byte and signals the address (R130). -/
theorem writeRegister_eq (a : Addr) (d : Byte) (s : State) :
    writeRegister a d s = .next ((s.memWrite a d).signal a) := rfl

/-- An address of the wave table is `WAVE_BASE` plus its low four bits (R40). -/
theorem waveBase_add {a : Addr} (h : a.extractLsb' 4 12 = 0xFF3#12) :
    Reg.waveBase + (a.extractLsb' 0 4).setWidth 16 = a := by
  have h := congrArg BitVec.toNat h
  have ha := a.isLt
  apply BitVec.eq_of_toNat_eq
  rw [extract_toNat, BitVec.toNat_ofNat] at h
  rw [BitVec.toNat_add, BitVec.toNat_setWidth, extract_toNat, BitVec.toNat_ofNat]
  omega

/-- An operation chosen by a test answers what both choices answer. -/
theorem exec_ite {c : Prop} [Decidable c] {i j : Instr} {s : State} {o : Result} (hi : c → exec i s = o)
    (hj : ¬ c → exec j s = o) : exec (if c then i else j) s = o := by
  by_cases h : c
  · rw [if_pos h]; exact hi h
  · rw [if_neg h]; exact hj h

/-- The `WR` row an address selects writes that very address. -/
theorem exec_decodeWrite (a : Addr) (d : Byte) (s : State) : exec (decodeWrite a d) s = writeRegister a d s := by
  unfold decodeWrite
  iterate 15 refine exec_ite (fun h => by subst h; rfl) fun _ => ?_
  exact exec_ite (fun h => congrArg (writeRegister · d s) (waveBase_add h)) fun _ => rfl

/-- Everything the dispatch decode can answer (R96). -/
theorem decodeDispatch_cases (a : Addr) :
    (a = Reg.ch1Sweep ∧ decodeDispatch a = .live1Sweep) ∨ (a = Reg.ch1Duty ∧ decodeDispatch a = .live1Duty) ∨
    (a = Reg.ch1Env ∧ decodeDispatch a = .live1Env) ∨ (a = Reg.ch1Flo ∧ decodeDispatch a = .live1Flo) ∨
    (a = Reg.ch1Fhi ∧ decodeDispatch a = .trig1) ∨ (a = Reg.ch2Fhi ∧ decodeDispatch a = .trig2) ∨
    (a = Reg.ch3Fhi ∧ decodeDispatch a = .trig3) ∨
    ((a ≠ Reg.ch1Sweep ∧ a ≠ Reg.ch1Duty ∧ a ≠ Reg.ch1Env ∧ a ≠ Reg.ch1Flo ∧ a ≠ Reg.ch1Fhi ∧ a ≠ Reg.ch2Fhi ∧
      a ≠ Reg.ch3Fhi) ∧ decodeDispatch a = .noroute) := by
  by_cases h1 : a = Reg.ch1Sweep
  · exact .inl ⟨h1, by subst h1; rfl⟩
  by_cases h2 : a = Reg.ch1Duty
  · exact .inr (.inl ⟨h2, by subst h2; rfl⟩)
  by_cases h3 : a = Reg.ch1Env
  · exact .inr (.inr (.inl ⟨h3, by subst h3; rfl⟩))
  by_cases h4 : a = Reg.ch1Flo
  · exact .inr (.inr (.inr (.inl ⟨h4, by subst h4; rfl⟩)))
  by_cases h5 : a = Reg.ch1Fhi
  · exact .inr (.inr (.inr (.inr (.inl ⟨h5, by subst h5; rfl⟩))))
  by_cases h6 : a = Reg.ch2Fhi
  · exact .inr (.inr (.inr (.inr (.inr (.inl ⟨h6, by subst h6; rfl⟩)))))
  by_cases h7 : a = Reg.ch3Fhi
  · exact .inr (.inr (.inr (.inr (.inr (.inr (.inl ⟨h7, by subst h7; rfl⟩))))))
  · exact .inr (.inr (.inr (.inr (.inr (.inr (.inr (⟨⟨h1, h2, h3, h4, h5, h6, h7⟩, by simp [decodeDispatch, h1, h2, h3, h4, h5, h6, h7]⟩)))))))

/-- A dispatched sub-operation is neither a write nor a poll nor a request. -/
theorem decodeDispatch_kind (a : Addr) : (decodeDispatch a).isWrite = false ∧ (decodeDispatch a).issuer = none := by
  rcases decodeDispatch_cases a with ⟨-, h⟩ | ⟨-, h⟩ | ⟨-, h⟩ | ⟨-, h⟩ | ⟨-, h⟩ | ⟨-, h⟩ | ⟨-, h⟩ | ⟨-, h⟩ <;> rw [h] <;>
    exact ⟨rfl, rfl⟩

theorem decodeDispatch_ne_poll (a : Addr) : decodeDispatch a ≠ .poll := by
  intro h
  simpa [h, Instr.issuer] using (decodeDispatch_kind a).2

/-- The comparison chain of `POLL` runs the operation the dispatch decode gives. -/
theorem route_eq (s : State) : route s = exec (decodeDispatch s.pendAddr) s := by
  unfold route decodeDispatch
  repeat' split
  all_goals rfl

/-- Everything `TRIG1` can do. -/
theorem execTrig1_cases (s : State) :
    (fires (s.memRead Reg.outSel) (s.memRead Reg.ch1Fhi) 0 = true ∧
      execTrig1 s = .next (s.setCh1 (latchSweep (s.memRead Reg.ch1Sweep)
        (latchSquare psg (s.memRead Reg.ch1Duty) (s.memRead Reg.ch1Env) (s.memRead Reg.ch1Flo)
          (s.memRead Reg.ch1Fhi) s.st0)))) ∨
    (fires (s.memRead Reg.outSel) (s.memRead Reg.ch1Fhi) 0 = false ∧ execTrig1 s = .next s) := by
  cases h : fires (s.memRead Reg.outSel) (s.memRead Reg.ch1Fhi) 0 <;> simp [execTrig1, h]

/-- Everything `TRIG2` can do. -/
theorem execTrig2_cases (s : State) :
    (fires (s.memRead Reg.outSel) (s.memRead Reg.ch2Fhi) 1 = true ∧
      execTrig2 s = .next (s.setCh2 (latchSquare psg (s.memRead Reg.ch2Duty) (s.memRead Reg.ch2Env)
        (s.memRead Reg.ch2Flo) (s.memRead Reg.ch2Fhi) s.st1))) ∨
    (fires (s.memRead Reg.outSel) (s.memRead Reg.ch2Fhi) 1 = false ∧ execTrig2 s = .next s) := by
  cases h : fires (s.memRead Reg.outSel) (s.memRead Reg.ch2Fhi) 1 <;> simp [execTrig2, h]

/-- Everything `TRIG3` can do. -/
theorem execTrig3_cases (s : State) :
    (fires (s.memRead Reg.outSel) (s.memRead Reg.ch3Fhi) 2 = true ∧
      execTrig3 s = .next (s.setCh3 (commonReset s.st2))) ∨
    (fires (s.memRead Reg.outSel) (s.memRead Reg.ch3Fhi) 2 = false ∧ execTrig3 s = .next s) := by
  cases h : fires (s.memRead Reg.outSel) (s.memRead Reg.ch3Fhi) 2 <;> simp [execTrig3, h]

/-- Everything `LIVE1.ENV` can do. -/
theorem execLive1Env_cases (s : State) :
    (s.st0.envelopeStep = 0#3 ∧ envStepField (s.memRead Reg.ch1Env) ≠ 0#3 ∧
      execLive1Env s = .next (s.setCh1 (latchEnvelope (s.memRead Reg.ch1Env) s.st0))) ∨
    (¬ (s.st0.envelopeStep = 0#3 ∧ envStepField (s.memRead Reg.ch1Env) ≠ 0#3) ∧ execLive1Env s = .next s) := by
  by_cases h : s.st0.envelopeStep = 0#3 ∧ envStepField (s.memRead Reg.ch1Env) ≠ 0#3
  · exact .inl ⟨h.1, h.2, congrArg _ (if_pos h)⟩
  · exact .inr ⟨h, congrArg _ (if_neg h)⟩

/-- Everything `LIVE1.FLO` can do. -/
theorem execLive1Flo_cases (s : State) :
    (s.st0.sweepTime ≠ 0#3 ∧ execLive1Flo s = .next (s.setCh1 (replaceFlo (s.memRead Reg.ch1Flo) s.st0))) ∨
    (s.st0.sweepTime = 0#3 ∧ execLive1Flo s = .next s) := by
  by_cases h : s.st0.sweepTime = 0#3
  · exact .inr ⟨h, congrArg _ (if_neg (fun hn => hn h))⟩
  · exact .inl ⟨h, congrArg _ (if_pos h)⟩

/-- Everything `POLL` can do. -/
theorem execPoll_cases (s : State) :
    (s.pend = true ∧ exec .poll s = exec (decodeDispatch s.pendAddr) s.consume) ∨
    (s.pend = false ∧ exec .poll s = .next s) := by
  cases h : s.pend with
  | true => exact .inl ⟨rfl, (if_pos h : execPoll s = _).trans (route_eq s.consume)⟩
  | false => exact .inr ⟨rfl, if_neg (by simp [h])⟩

/-- A step that answers a next state was idle or ran the operation of the command it took. -/
theorem step_cases {s t : State} (h : step s = .next t) :
    (s.commands = [] ∧ t = s) ∨
    (∃ w rest i, s.commands = w :: rest ∧ decodeCommand w = .ok i ∧ exec i (s.setCommands rest) = .next t) := by
  unfold step at h
  split at h
  · next hc => cases h; exact .inl ⟨hc, rfl⟩
  · next w rest hc =>
    split at h
    · next i hi => exact .inr ⟨w, rest, i, hc, hi, h⟩
    · cases h

/-- What taking a command, consuming an update and every operation but `POLL` keep, a step keeps. -/
theorem step_keeps {P : State → Prop} (hcommands : ∀ s ws, P s → P (s.setCommands ws))
    (hconsume : ∀ s, P s → P s.consume) (hexec : ∀ i s t, i ≠ .poll → P s → exec i s = .next t → P t)
    {s t : State} (hs : P s) (h : step s = .next t) : P t := by
  rcases step_cases h with ⟨-, rfl⟩ | ⟨w, rest, i, -, -, h⟩
  · exact hs
  · by_cases hi : i = .poll
    · subst hi
      rcases execPoll_cases (s.setCommands rest) with ⟨-, h'⟩ | ⟨-, h'⟩ <;> rw [h'] at h
      · exact hexec _ _ _ (decodeDispatch_ne_poll _) (hconsume _ (hcommands _ _ hs)) h
      · cases h; exact hcommands _ _ hs
    · exact hexec _ _ _ hi (hcommands _ _ hs) h

end Sys2Proof.Machine
end

