-- ==== Sys2Proof/Laws/Memory.lean ====
section
/-! SUPPORT. The register store: read after write, and that a write keeps the canonical form. -/

namespace Sys2Proof.Machine

/-- A lookup after an insert gives the byte inserted at its address and the old answer at any other. -/
theorem Memory.lookup_insert (m : Memory) (a : Nat) (v : Byte) (b : Nat) :
    Memory.lookup (Memory.insert m a v) b = if b = a then some v else Memory.lookup m b := by
  induction m with
  | nil => rfl
  | cons c m ih =>
    obtain ⟨k, w⟩ := c
    simp only [Memory.insert]
    split
    · rfl
    · split
      · subst_vars
        simp only [Memory.lookup]
        split <;> rfl
      · simp only [Memory.lookup, ih]
        split
        · subst_vars
          rename_i h
          rw [if_neg (fun e => h e.symm)]
        · rfl

theorem State.memRead_memWrite (s : State) (a b : Addr) (v : Byte) :
    (s.memWrite a v).memRead b = if b = a then v else s.memRead b := by
  simp only [State.memRead, State.memWrite_store, Memory.lookup_insert, BitVec.toNat_inj]
  split <;> rfl

@[simp] theorem State.memRead_memWrite_self (s : State) (a : Addr) (v : Byte) :
    (s.memWrite a v).memRead a = v := by
  simp [State.memRead_memWrite]

theorem State.memRead_memWrite_ne (s : State) {a b : Addr} (v : Byte) (h : b ≠ a) :
    (s.memWrite a v).memRead b = s.memRead b := by
  simp [State.memRead_memWrite, h]

/-- A lower start of the canonical form is a weaker demand. -/
theorem Memory.wfFrom_mono {m : Memory} {lo lo' : Nat} (h : Memory.wfFrom lo m = true) (hl : lo' ≤ lo) :
    Memory.wfFrom lo' m = true := by
  cases m with
  | nil => rfl
  | cons c m =>
    simp only [Memory.wfFrom, Bool.and_eq_true, decide_eq_true_eq] at h ⊢
    exact ⟨⟨hl.trans h.1.1, h.1.2⟩, h.2⟩

/-- An insert keeps the canonical form from any start at or below its address. -/
theorem Memory.wfFrom_insert (m : Memory) (lo a : Nat) (v : Byte) (hm : Memory.wfFrom lo m = true)
    (hlo : lo ≤ a) (ha : a < 2 ^ 16) : Memory.wfFrom lo (Memory.insert m a v) = true := by
  induction m generalizing lo with
  | nil => simp [Memory.insert, Memory.wfFrom, hlo]; omega
  | cons c m ih =>
    obtain ⟨k, w⟩ := c
    simp only [Memory.wfFrom, Bool.and_eq_true, decide_eq_true_eq] at hm
    obtain ⟨⟨hk, hk'⟩, hrest⟩ := hm
    simp only [Memory.insert]
    split
    · next h =>
      simp only [Memory.wfFrom, Bool.and_eq_true, decide_eq_true_eq]
      exact ⟨⟨hlo, ha⟩, ⟨h, hk'⟩, hrest⟩
    · split
      · next h =>
        subst h
        simp only [Memory.wfFrom, Bool.and_eq_true, decide_eq_true_eq]
        exact ⟨⟨hlo, ha⟩, hrest⟩
      · next h1 h2 =>
        simp only [Memory.wfFrom, Bool.and_eq_true, decide_eq_true_eq]
        exact ⟨⟨hk, hk'⟩, ih (k + 1) hrest (by omega)⟩

/-- The one writer of the store, `MemWrite`, keeps its canonical form. -/
theorem State.memWrite_wf (s : State) (a : Addr) (v : Byte) (h : Memory.wf s.store = true) :
    Memory.wf (s.memWrite a v).store = true :=
  Memory.wfFrom_insert _ 0 _ v h (Nat.zero_le _) a.isLt

theorem reset_store_wf : Memory.wf State.reset.store = true := rfl

/-- Right after reset every address reads its open `REG_INIT` byte (R62). -/
theorem reset_memRead (a : Addr) : State.reset.memRead a = Config.regInit a := rfl

end Sys2Proof.Machine
end

