-- ==== Sys2Proof/Laws/PerInstr.lean ====
section
/-! SUPPORT. Per-instruction facts of the syntax: the format of an operation's word. -/

namespace Sys2Proof.Laws

/-- R91 to R94, R120: the word `encode` gives an operation is of the format of its row, with the kind of its format and
every must-be-zero field zero. -/
def EncodedFormat.Statement (i : Instr) : Prop :=
  match encode i with
  | .command w =>
    (kindField w = 0#2 ∧ writeZeroField w = 0#6) ∨ (kindField w = 1#2 ∧ pollZeroField w = 0#30) ∨
      (kindField w = 2#2 ∧ genZeroField w = 0#12)
  | .dispatch a => (decodeDispatch a).mnemonic = i.mnemonic

theorem EncodedFormat.wrCh1Sweep (data : Byte) : EncodedFormat.Statement (.wrCh1Sweep data) :=
  .inl ⟨(writeWord_fields _ _).1, (writeWord_fields _ _).2.1⟩

theorem EncodedFormat.wrCh1Duty (data : Byte) : EncodedFormat.Statement (.wrCh1Duty data) :=
  .inl ⟨(writeWord_fields _ _).1, (writeWord_fields _ _).2.1⟩

theorem EncodedFormat.wrCh1Env (data : Byte) : EncodedFormat.Statement (.wrCh1Env data) :=
  .inl ⟨(writeWord_fields _ _).1, (writeWord_fields _ _).2.1⟩

theorem EncodedFormat.wrCh1Flo (data : Byte) : EncodedFormat.Statement (.wrCh1Flo data) :=
  .inl ⟨(writeWord_fields _ _).1, (writeWord_fields _ _).2.1⟩

theorem EncodedFormat.wrCh1Fhi (data : Byte) : EncodedFormat.Statement (.wrCh1Fhi data) :=
  .inl ⟨(writeWord_fields _ _).1, (writeWord_fields _ _).2.1⟩

theorem EncodedFormat.wrCh2Duty (data : Byte) : EncodedFormat.Statement (.wrCh2Duty data) :=
  .inl ⟨(writeWord_fields _ _).1, (writeWord_fields _ _).2.1⟩

theorem EncodedFormat.wrCh2Env (data : Byte) : EncodedFormat.Statement (.wrCh2Env data) :=
  .inl ⟨(writeWord_fields _ _).1, (writeWord_fields _ _).2.1⟩

theorem EncodedFormat.wrCh2Flo (data : Byte) : EncodedFormat.Statement (.wrCh2Flo data) :=
  .inl ⟨(writeWord_fields _ _).1, (writeWord_fields _ _).2.1⟩

theorem EncodedFormat.wrCh2Fhi (data : Byte) : EncodedFormat.Statement (.wrCh2Fhi data) :=
  .inl ⟨(writeWord_fields _ _).1, (writeWord_fields _ _).2.1⟩

theorem EncodedFormat.wrCh3On (data : Byte) : EncodedFormat.Statement (.wrCh3On data) :=
  .inl ⟨(writeWord_fields _ _).1, (writeWord_fields _ _).2.1⟩

theorem EncodedFormat.wrCh3Len (data : Byte) : EncodedFormat.Statement (.wrCh3Len data) :=
  .inl ⟨(writeWord_fields _ _).1, (writeWord_fields _ _).2.1⟩

theorem EncodedFormat.wrCh3Level (data : Byte) : EncodedFormat.Statement (.wrCh3Level data) :=
  .inl ⟨(writeWord_fields _ _).1, (writeWord_fields _ _).2.1⟩

theorem EncodedFormat.wrCh3Flo (data : Byte) : EncodedFormat.Statement (.wrCh3Flo data) :=
  .inl ⟨(writeWord_fields _ _).1, (writeWord_fields _ _).2.1⟩

theorem EncodedFormat.wrCh3Fhi (data : Byte) : EncodedFormat.Statement (.wrCh3Fhi data) :=
  .inl ⟨(writeWord_fields _ _).1, (writeWord_fields _ _).2.1⟩

theorem EncodedFormat.wrOutSel (data : Byte) : EncodedFormat.Statement (.wrOutSel data) :=
  .inl ⟨(writeWord_fields _ _).1, (writeWord_fields _ _).2.1⟩

theorem EncodedFormat.wrWave (j : BitVec 4) (data : Byte) : EncodedFormat.Statement (.wrWave j data) :=
  .inl ⟨(writeWord_fields _ _).1, (writeWord_fields _ _).2.1⟩

theorem EncodedFormat.wrOther (addr : Addr) (data : Byte) : EncodedFormat.Statement (.wrOther addr data) :=
  .inl ⟨(writeWord_fields _ _).1, (writeWord_fields _ _).2.1⟩

theorem EncodedFormat.poll : EncodedFormat.Statement .poll :=
  .inr (.inl ⟨rfl, rfl⟩)

theorem EncodedFormat.gen (n : BitVec 16) : EncodedFormat.Statement (.gen n) :=
  .inr (.inr ⟨(requestWord_fields _ _).1, (requestWord_fields _ _).2.1⟩)

theorem EncodedFormat.gen1 (n : BitVec 16) : EncodedFormat.Statement (.gen1 n) :=
  .inr (.inr ⟨(requestWord_fields _ _).1, (requestWord_fields _ _).2.1⟩)

theorem EncodedFormat.gen2 (n : BitVec 16) : EncodedFormat.Statement (.gen2 n) :=
  .inr (.inr ⟨(requestWord_fields _ _).1, (requestWord_fields _ _).2.1⟩)

theorem EncodedFormat.gen3 (n : BitVec 16) : EncodedFormat.Statement (.gen3 n) :=
  .inr (.inr ⟨(requestWord_fields _ _).1, (requestWord_fields _ _).2.1⟩)

theorem EncodedFormat.live1Sweep : EncodedFormat.Statement .live1Sweep :=
  rfl

theorem EncodedFormat.live1Duty : EncodedFormat.Statement .live1Duty :=
  rfl

theorem EncodedFormat.live1Env : EncodedFormat.Statement .live1Env :=
  rfl

theorem EncodedFormat.live1Flo : EncodedFormat.Statement .live1Flo :=
  rfl

theorem EncodedFormat.trig1 : EncodedFormat.Statement .trig1 :=
  rfl

theorem EncodedFormat.trig2 : EncodedFormat.Statement .trig2 :=
  rfl

theorem EncodedFormat.trig3 : EncodedFormat.Statement .trig3 :=
  rfl

theorem EncodedFormat.noroute : EncodedFormat.Statement .noroute :=
  rfl

end Sys2Proof.Laws
end

