-- ==== Sys2Proof/Laws/Square.lean ====
section
/-! SUPPORT. The square generators: what the sweep and the envelope of one slot can do, and what they leave alone. -/

namespace Sys2Proof.Machine

section Cadences

variable (cfg : Config) (r : ChannelState)

theorem sweepDue_iff : sweepDue cfg r = true ↔ cfg.sr * r.sweepTime.toNat ≤ (r.sweepCounter + 1) * 128 :=
  decide_eq_true_iff

theorem envelopeDue_iff : envelopeDue cfg r = true ↔ cfg.sr * r.envelopeStep.toNat ≤ (r.envelopeCounter + 1) * 64 :=
  decide_eq_true_iff

theorem sweepOverflows_iff : sweepOverflows cfg r = true ↔ 2048 ≤ r.rawFrequency.toNat + sweepDelta cfg r :=
  decide_eq_true_iff

theorem dutyHigh_iff : dutyHigh cfg r = true ↔
    cfg.sr * r.periodCode * r.dutyStart.toNat ≤ r.freqDist * 2 ^ 20 ∧
      r.freqDist * 2 ^ 20 < cfg.sr * r.periodCode * r.dutyEnd.toNat ∧ 1 ≤ r.volume.toNat := by
  simp only [dutyHigh, Bool.and_eq_true, decide_eq_true_iff, and_assoc]

/-- Everything a slot's sweep step can do (R187, R188). -/
theorem sweepTick_cases :
    (r.sweepTime = 0#3 ∧ sweepTick cfg r = r) ∨
    (r.sweepTime ≠ 0#3 ∧ sweepDue cfg r = false ∧ sweepTick cfg r = { r with sweepCounter := r.sweepCounter + 1 }) ∨
    (r.sweepTime ≠ 0#3 ∧ sweepDue cfg r = true ∧ r.sweepDirection = false ∧ sweepOverflows cfg r = true ∧
      sweepTick cfg r = { r with
        volume := 0#4, sweepStep := 0#3, envelopeStep := 0#3, sweepTime := 0#3, playing := false, sweepCounter := 0 }) ∨
    (r.sweepTime ≠ 0#3 ∧ sweepDue cfg r = true ∧ r.sweepDirection = false ∧ sweepOverflows cfg r = false ∧
      sweepTick cfg r = { r with
        rawFrequency := BitVec.ofNat 11 (r.rawFrequency.toNat + sweepDelta cfg r), sweepCounter := 0 }) ∨
    (r.sweepTime ≠ 0#3 ∧ sweepDue cfg r = true ∧ r.sweepDirection = true ∧
      sweepTick cfg r = { r with
        rawFrequency := BitVec.ofNat 11 (r.rawFrequency.toNat - sweepDelta cfg r), sweepCounter := 0 }) := by
  by_cases ht : r.sweepTime = 0#3
  · exact .inl ⟨ht, by simp [sweepTick, ht]⟩
  · cases hd : sweepDue cfg r with
    | false => exact .inr (.inl ⟨ht, rfl, by simp [sweepTick, ht, hd]⟩)
    | true =>
      cases hs : r.sweepDirection with
      | true => exact .inr (.inr (.inr (.inr ⟨ht, rfl, rfl, by simp [sweepTick, ht, hd, sweepEvent, hs]⟩)))
      | false =>
        cases ho : sweepOverflows cfg r with
        | true => exact .inr (.inr (.inl ⟨ht, rfl, rfl, rfl, by simp [sweepTick, ht, hd, sweepEvent, hs, ho]⟩))
        | false => exact .inr (.inr (.inr (.inl ⟨ht, rfl, rfl, rfl, by simp [sweepTick, ht, hd, sweepEvent, hs, ho]⟩)))

/-- Everything a slot's envelope step can do (R189, R190). -/
theorem envelopeTick_cases :
    (r.envelopeStep = 0#3 ∧ envelopeTick cfg r = r) ∨
    (r.envelopeStep ≠ 0#3 ∧ envelopeDue cfg r = false ∧
      envelopeTick cfg r = { r with envelopeCounter := r.envelopeCounter + 1 }) ∨
    (r.envelopeStep ≠ 0#3 ∧ envelopeDue cfg r = true ∧
      envelopeTick cfg r = { envelopeEvent r with envelopeCounter := 0 }) := by
  by_cases ht : r.envelopeStep = 0#3
  · exact .inl ⟨ht, by simp [envelopeTick, ht]⟩
  · cases hd : envelopeDue cfg r with
    | false => exact .inr (.inl ⟨ht, rfl, by simp [envelopeTick, ht, hd]⟩)
    | true => exact .inr (.inr ⟨ht, rfl, by simp [envelopeTick, ht, hd]⟩)

/-- The sweep's amount is at most the code, so a decrease stays at or above 0 (R188). -/
theorem sweepDelta_le : sweepDelta cfg r ≤ r.rawFrequency.toNat := by
  unfold sweepDelta
  split
  · exact le_rfl
  · exact Nat.shiftRight_le _ _

/-- The frame of the sweep step: phase, note length, duty and the envelope's counter and direction stay. -/
theorem sweepTick_frame :
    (sweepTick cfg r).freqDist = r.freqDist ∧ (sweepTick cfg r).sampleLength = r.sampleLength ∧
    (sweepTick cfg r).duration = r.duration ∧ (sweepTick cfg r).dutyStart = r.dutyStart ∧
    (sweepTick cfg r).dutyEnd = r.dutyEnd ∧ (sweepTick cfg r).envelopeCounter = r.envelopeCounter ∧
    (sweepTick cfg r).envelopeDirection = r.envelopeDirection ∧
    (sweepTick cfg r).sweepDirection = r.sweepDirection ∧ (sweepTick cfg r).waveShift = r.waveShift := by
  rcases sweepTick_cases cfg r with ⟨-, h⟩ | ⟨-, -, h⟩ | ⟨-, -, -, -, h⟩ | ⟨-, -, -, -, h⟩ | ⟨-, -, -, h⟩ <;>
    simp [h]

/-- The frame of the envelope step: only `volume` and `envelope_counter` can change. -/
theorem envelopeTick_frame :
    envelopeTick cfg r = { r with
      volume := (envelopeTick cfg r).volume, envelopeCounter := (envelopeTick cfg r).envelopeCounter } := by
  rcases envelopeTick_cases cfg r with ⟨-, h⟩ | ⟨-, -, h⟩ | ⟨-, -, h⟩ <;> simp [h]

end Cadences

/-- The range of the amplitude: `AMP(v)` never leaves the positive 16-bit range (R242). -/
theorem amplitude_toInt (v : BitVec 4) : (amplitude psg v).toInt = ((32767 * v.toNat / 16 : Nat) : Int) := by
  have hv : v.toNat < 16 := v.isLt
  generalize hk : v.toNat = k at hv
  have : amplitude psg v = toSample ((32767 * k / 16 : Nat) : Int) := by simp only [amplitude, hk]; rfl
  rw [this]
  interval_cases k <;> rfl

theorem silence_toInt : (silence psg).toInt = -32768 := by decide

end Sys2Proof.Machine
end

