-- ==== Sys2Proof/Laws/Wave.lean ====
section
/-! SUPPORT. The wavetable generator: what the re-derivation, a slot and a whole call change, and the entries of the wave
table. -/

namespace Sys2Proof.Machine

section Rederivation

variable (cfg : Config) (d : Duration) (fhi flo len level : Byte) (r : ChannelState)

/-- Everything the conditional reload of R222 can do. -/
theorem redurate_cases :
    (d = r.duration ∧ redurate cfg d r = r) ∨
    (d ≠ r.duration ∧ redurate cfg d r = { r with duration := d, sampleLength := Duration.samples cfg d }) := by
  by_cases h : d = r.duration
  · exact .inl ⟨h, by simp [redurate, h]⟩
  · exact .inr ⟨h, by simp [redurate, h]⟩

/-- After the re-derivation the record holds the derived duration, whether or not it was reloaded. -/
@[simp] theorem rederive_duration : (rederive cfg fhi flo len level r).duration = waveDuration cfg len fhi := by
  rcases redurate_cases cfg (waveDuration cfg len fhi) r with ⟨h, h'⟩ | ⟨-, h'⟩
  · simpa only [rederive, h'] using h.symm
  · simp only [rederive, h']

@[simp] theorem rederive_rawFrequency :
    (rederive cfg fhi flo len level r).rawFrequency = frequencyCode fhi flo := rfl

@[simp] theorem rederive_waveShift : (rederive cfg fhi flo len level r).waveShift = shiftOf (levelSelector level) := rfl

theorem rederive_sampleLength : (rederive cfg fhi flo len level r).sampleLength =
    if waveDuration cfg len fhi = r.duration then r.sampleLength
    else Duration.samples cfg (waveDuration cfg len fhi) := by
  simp only [rederive, redurate]
  split <;> rfl

/-- The frame of the re-derivation: it writes `raw_frequency`, `duration`, `sample_length` and `wave_shift` only. -/
theorem rederive_frame :
    rederive cfg fhi flo len level r = { r with
      rawFrequency := (rederive cfg fhi flo len level r).rawFrequency
      duration := (rederive cfg fhi flo len level r).duration
      sampleLength := (rederive cfg fhi flo len level r).sampleLength
      waveShift := (rederive cfg fhi flo len level r).waveShift } := by
  rcases redurate_cases cfg (waveDuration cfg len fhi) r with ⟨-, h'⟩ | ⟨-, h'⟩ <;> simp only [rederive, h']

/-- A record that already holds what the registers give is left alone. -/
theorem rederive_of_current (hd : waveDuration cfg len fhi = r.duration) (hf : frequencyCode fhi flo = r.rawFrequency)
    (hs : shiftOf (levelSelector level) = r.waveShift) : rederive cfg fhi flo len level r = r := by
  rw [rederive_frame, rederive_rawFrequency, rederive_duration, rederive_sampleLength, rederive_waveShift, if_pos hd, hd, hf,
    hs]

end Rederivation

/-- The re-derivation of a call keeps `playing`. -/
@[simp] theorem startGen3_playing (s : State) : (startGen3 s).playing = s.st2.playing := by
  unfold startGen3
  split
  · rw [rederive_frame]
  · rfl

/-- Re-deriving a second time from the same registers changes nothing. -/
theorem startGen3_idem (s : State) : startGen3 { s with st2 := startGen3 s } = startGen3 s := by
  by_cases h : s.st2.playing = true
  · have hs : startGen3 s = rederive psg (s.memRead Reg.ch3Fhi) (s.memRead Reg.ch3Flo) (s.memRead Reg.ch3Len)
        (s.memRead Reg.ch3Level) s.st2 := if_pos h
    refine (if_pos (h ▸ startGen3_playing s)).trans (rederive_of_current _ _ _ _ _ _ ?_ ?_ ?_) <;> rw [hs]
    · exact (rederive_duration ..).symm
    · rfl
    · rfl
  · exact if_neg (by rwa [startGen3_playing])

/-- The frame of a slot of channel 3: it writes `freq_dist`, `sample_length` and `playing` only. -/
theorem outputSlot_waveSlot3_frame (cfg : Config) (table : Nat → Byte) (r : ChannelState) :
    (outputSlot cfg (waveSlot3 cfg table) r).1 = { r with
      freqDist := (outputSlot cfg (waveSlot3 cfg table) r).1.freqDist
      sampleLength := (outputSlot cfg (waveSlot3 cfg table) r).1.sampleLength
      playing := (outputSlot cfg (waveSlot3 cfg table) r).1.playing } := by
  rcases outputSlot_cases cfg (waveSlot3 cfg table) r with ⟨-, h⟩ | ⟨-, -, h⟩ | ⟨-, -, h⟩ <;> rw [h] <;> rfl

/-- A whole call leaves the code, the duration and the shift its slots start with. -/
theorem runGen3_latched (n : Nat) (s : State) :
    (runGen3 n s).st2.rawFrequency = (startGen3 s).rawFrequency ∧ (runGen3 n s).st2.duration = (startGen3 s).duration ∧
      (runGen3 n s).st2.waveShift = (startGen3 s).waveShift :=
  runSlots_keeps _
    (P := fun r => r.rawFrequency = (startGen3 s).rawFrequency ∧ r.duration = (startGen3 s).duration ∧
      r.waveShift = (startGen3 s).waveShift)
    (fun r hr => by rwa [outputSlot_waveSlot3_frame]) n _ ⟨rfl, rfl, rfl⟩

/-- An even entry is the high nibble of its byte (R65). -/
theorem nibble_even (j : Nat) (b : Byte) : (nibble (2 * j) b).toNat = b.toNat / 16 := by
  have := b.isLt
  rw [nibble, if_pos (by omega), extract_toNat]
  omega

/-- An odd entry is the low nibble of its byte (R65). -/
theorem nibble_odd (j : Nat) (b : Byte) : (nibble (2 * j + 1) b).toNat = b.toNat % 16 := by
  rw [nibble, if_neg (by omega), extract_toNat]
  omega

/-- A sample of channel 3 is its exact value: `MIN + 4369 * k` fits 16 bits for every nibble (R228, R242). -/
theorem waveSample_toInt (shift : BitVec 3) (nib : BitVec 4) :
    (waveSample psg shift nib).toInt = -32768 + 4369 * ((nib.toNat >>> shift.toNat : Nat) : Int) := by
  have hle : nib.toNat >>> shift.toNat ≤ nib.toNat := Nat.shiftRight_le _ _
  have hlt : nib.toNat < 16 := nib.isLt
  have : waveSample psg shift nib = toSample (-32768 + 4369 * ((nib.toNat >>> shift.toNat : Nat) : Int)) := rfl
  rw [this]
  generalize nib.toNat >>> shift.toNat = k at hle ⊢
  have : k < 16 := by omega
  interval_cases k <;> rfl

end Sys2Proof.Machine
end

