-- ==== Sys2Proof/Tests/Slice0.lean ====
section
/-! SUPPORT. Small tests of the model: well-formedness, decoding, single steps with the expected values of
95_test_vectors.md, and a witness of the hypotheses of every statement that has some. -/

open Sys2Proof Sys2Proof.Machine Sys2Proof.Claims

namespace Sys2Proof.Tests

/-- A field of the state an operation answers. -/
def after {α : Type} (i : Instr) (s : State) (f : State → α) : Option α :=
  match exec i s with
  | .next t => some (f t)
  | _ => none

theorem after_some {α : Type} {i : Instr} {s : State} {f : State → α} {v : α} (h : after i s f = some v) :
    ∃ t, exec i s = .next t ∧ f t = v := by
  unfold after at h
  split at h
  · next t ht => cases h; exact ⟨t, ht, rfl⟩
  · cases h

/-- The state after reset with some bytes already written. -/
def board (m : Memory) : State := { State.reset with store := m }

/-- The same with an update pending at `a`. -/
def pending (a : Addr) (m : Memory) : State := { board m with pend := true, pendAddr := a }

/-- The samples of a stream as integers. -/
def ints (vs : List Sample) : List Int := vs.map BitVec.toInt

/-! ## Well-formedness: an ill-formed term for its one check (a mapped address is never `WR.OTHER`, R64) -/

theorem test_wellFormed_refuses_named : ¬ WellFormed (.wrOther 0xFF14#16 0#8) := by decide
theorem test_wellFormed_refuses_wave : ¬ WellFormed (.wrOther 0xFF30#16 0#8) ∧ ¬ WellFormed (.wrOther 0xFF3F#16 0#8) := by
  decide
theorem test_wellFormed_accepts_unmapped :
    WellFormed (.wrOther 0xFF15#16 0#8) ∧ WellFormed (.wrOther 0xFF2F#16 0#8) ∧ WellFormed (.wrOther 0xFF40#16 0#8) := by
  decide

/-! ## Decoding: a word of every row, from the formats of R92 to R94 and the map of R96 -/

/-- `00 000000 addr data` (R92), the fields written out one after the other. -/
theorem test_decode_writes_square :
    decode (.command (0b00#2 ++ 0b000000#6 ++ 0xFF10#16 ++ 0x12#8)) = .ok (.wrCh1Sweep 0x12#8) ∧
    decode (.command (0b00#2 ++ 0b000000#6 ++ 0xFF11#16 ++ 0x80#8)) = .ok (.wrCh1Duty 0x80#8) ∧
    decode (.command (0b00#2 ++ 0b000000#6 ++ 0xFF12#16 ++ 0xF3#8)) = .ok (.wrCh1Env 0xF3#8) ∧
    decode (.command (0b00#2 ++ 0b000000#6 ++ 0xFF13#16 ++ 0xD6#8)) = .ok (.wrCh1Flo 0xD6#8) ∧
    decode (.command (0b00#2 ++ 0b000000#6 ++ 0xFF14#16 ++ 0x86#8)) = .ok (.wrCh1Fhi 0x86#8) ∧
    decode (.command (0b00#2 ++ 0b000000#6 ++ 0xFF16#16 ++ 0x7F#8)) = .ok (.wrCh2Duty 0x7F#8) ∧
    decode (.command (0b00#2 ++ 0b000000#6 ++ 0xFF17#16 ++ 0xF1#8)) = .ok (.wrCh2Env 0xF1#8) ∧
    decode (.command (0b00#2 ++ 0b000000#6 ++ 0xFF18#16 ++ 0x80#8)) = .ok (.wrCh2Flo 0x80#8) ∧
    decode (.command (0b00#2 ++ 0b000000#6 ++ 0xFF19#16 ++ 0xC4#8)) = .ok (.wrCh2Fhi 0xC4#8) := by
  decide

/-- Whole words of P4 and V5, V6. -/
theorem test_decode_writes_others :
    decode (.command 0x00FF1A80#32) = .ok (.wrCh3On 0x80#8) ∧ decode (.command 0x00FF1BFF#32) = .ok (.wrCh3Len 0xFF#8) ∧
    decode (.command 0x00FF1C20#32) = .ok (.wrCh3Level 0x20#8) ∧ decode (.command 0x00FF1D00#32) = .ok (.wrCh3Flo 0x00#8) ∧
    decode (.command 0x00FF1E87#32) = .ok (.wrCh3Fhi 0x87#8) ∧ decode (.command 0x00FF2577#32) = .ok (.wrOutSel 0x77#8) ∧
    decode (.command 0x00FF3F10#32) = .ok (.wrWave 15#4 0x10#8) ∧
    decode (.command 0x001234AB#32) = .ok (.wrOther 0x1234#16 0xAB#8) ∧
    decode (.command 0x00FF15AB#32) = .ok (.wrOther 0xFF15#16 0xAB#8) := by
  decide

/-- `01 0…0` (R93) and `10 0…0 ch n` (R94). -/
theorem test_decode_poll_and_requests :
    decode (.command (0b01#2 ++ 0#30)) = .ok .poll ∧
    decode (.command (0b10#2 ++ 0#12 ++ 0b00#2 ++ 4#16)) = .ok (.gen 4#16) ∧
    decode (.command (0b10#2 ++ 0#12 ++ 0b01#2 ++ 0x113A#16)) = .ok (.gen1 4410#16) ∧
    decode (.command (0b10#2 ++ 0#12 ++ 0b10#2 ++ 0x00AE#16)) = .ok (.gen2 174#16) ∧
    decode (.command (0b10#2 ++ 0#12 ++ 0b11#2 ++ 0xFFFF#16)) = .ok (.gen3 65535#16) := by
  decide

/-- The eight routes of R96. -/
theorem test_decode_dispatch :
    decode (.dispatch 0xFF10#16) = .ok .live1Sweep ∧ decode (.dispatch 0xFF11#16) = .ok .live1Duty ∧
    decode (.dispatch 0xFF12#16) = .ok .live1Env ∧ decode (.dispatch 0xFF13#16) = .ok .live1Flo ∧
    decode (.dispatch 0xFF14#16) = .ok .trig1 ∧ decode (.dispatch 0xFF19#16) = .ok .trig2 ∧
    decode (.dispatch 0xFF1E#16) = .ok .trig3 ∧ decode (.dispatch 0xFF17#16) = .ok .noroute ∧
    decode (.dispatch 0x0000#16) = .ok .noroute := by
  decide

/-- R95: kind `11` and a set must-be-zero bit, at both ends of each field. -/
theorem test_decode_reserved :
    decodeCommand 0xC0000000#32 = .error .reservedKind ∧ decodeCommand 0xFFFFFFFF#32 = .error .reservedKind ∧
    decodeCommand 0x01FF1200#32 = .error .nonZeroField ∧ decodeCommand 0x20FF1200#32 = .error .nonZeroField ∧
    decodeCommand 0x40000001#32 = .error .nonZeroField ∧ decodeCommand 0x60000000#32 = .error .nonZeroField ∧
    decodeCommand 0x80040000#32 = .error .nonZeroField ∧ decodeCommand 0xA0000000#32 = .error .nonZeroField := by
  decide

theorem test_decode_bytes :
    decodeBytes [0xF3#8, 0x12#8, 0xFF#8, 0x00#8] = .ok (.wrCh1Env 0xF3#8) ∧ decodeBytes [0x1E#8, 0xFF#8] = .ok .trig3 ∧
    decodeBytes [] = .error .badLength ∧ decodeBytes [0#8, 0#8, 0#8] = .error .badLength ∧
    decodeBytes [0#8, 0#8, 0#8, 0#8, 0#8] = .error .badLength := by
  decide

theorem test_encode :
    encode (.wrWave 12#4 0x76#8) = .command 0x00FF3C76#32 ∧ encode .poll = .command 0x40000000#32 ∧
    encode (.gen2 11030#16) = .command 0x80022B16#32 ∧ encode .trig2 = .dispatch 0xFF19#16 := by
  decide

/-! ## Register writes (R130) -/

/-- V1: the byte is stored, the update pends, no record changes. -/
theorem test_wr_v1 :
    after (.wrCh1Env 0xF3#8) .reset (fun t => (t.store, t.pend, t.pendAddr, t.st0)) =
      some ([(0xFF12, 0xF3#8)], true, 0xFF12#16, ChannelState.reset) := by
  decide

/-- Each `WR` reaches its own address (R40). -/
theorem test_wr_addresses :
    ([.wrCh1Sweep 1#8, .wrCh1Duty 1#8, .wrCh1Env 1#8, .wrCh1Flo 1#8, .wrCh1Fhi 1#8, .wrCh2Duty 1#8, .wrCh2Env 1#8,
      .wrCh2Flo 1#8, .wrCh2Fhi 1#8, .wrCh3On 1#8, .wrCh3Len 1#8, .wrCh3Level 1#8, .wrCh3Flo 1#8, .wrCh3Fhi 1#8,
      .wrOutSel 1#8, .wrWave 0#4 1#8, .wrWave 15#4 1#8, .wrOther 0x1234#16 1#8] : List Instr).map
      (fun i => after i .reset (fun t => (t.store.map Prod.fst, t.pendAddr.toNat))) =
    [0xFF10, 0xFF11, 0xFF12, 0xFF13, 0xFF14, 0xFF16, 0xFF17, 0xFF18, 0xFF19, 0xFF1A, 0xFF1B, 0xFF1C, 0xFF1D, 0xFF1E,
      0xFF25, 0xFF30, 0xFF3F, 0x1234].map (fun a => some ([a], a)) := by
  decide

/-- R62, R63: a second write to an address replaces its byte; the list stays sorted. -/
theorem test_wr_canonical :
    after (.wrCh1Duty 0x40#8) (board [(0xFF10, 0#8), (0xFF11, 0x80#8), (0xFF25, 0x11#8)]) State.store =
      some [(0xFF10, 0#8), (0xFF11, 0x40#8), (0xFF25, 0x11#8)] := by
  decide

/-! ## The dispatcher -/

/-- The registers of P1. -/
def p1Regs : Memory :=
  [(0xFF10, 0x00#8), (0xFF11, 0x80#8), (0xFF12, 0x80#8), (0xFF13, 0xD6#8), (0xFF14, 0x86#8), (0xFF25, 0x11#8)]

/-- Channel 1 of P1 after its `POLL`. -/
def p1Note : ChannelState :=
  { ChannelState.reset with
    playing := true, rawFrequency := 1750#11, duration := .indefinite, sampleLength := 220500, volume := 8#4
    dutyEnd := 4#4 }

/-- V2: the live envelope restarts from 0. -/
theorem test_poll_v2 :
    after .poll (pending 0xFF12#16 [(0xFF12, 0xF3#8)]) (fun t => (t.pend, t.pendAddr, t.st0)) =
      some (false, 0xFF12#16, { ChannelState.reset with volume := 15#4, envelopeStep := 3#3 }) := by
  decide

/-- P1 step 7: the trigger runs inside the `POLL`. -/
theorem test_poll_p1 :
    after .poll (pending 0xFF14#16 p1Regs) (fun t => (t.pend, t.st0)) = some (false, p1Note) := by
  decide

/-- V4: no update, no effect. -/
theorem test_poll_v4 : after .poll (board p1Regs) id = some (board p1Regs) := by decide

/-- V6, V7: unrouted addresses are only consumed. -/
theorem test_noroute :
    after .poll (pending 0x1234#16 [(0x1234, 0xAB#8)]) (fun t => (t.pend, t.st0, t.st1, t.st2)) =
      some (false, .reset, .reset, .reset) ∧
    after .noroute (board p1Regs) id = some (board p1Regs) := by
  decide

/-! ## Triggers and live updates -/

/-- V12 for `TRIG1`: which `OUT_SEL`, `CH1_FHI` pairs fire. -/
theorem test_trig1_fires :
    ([(0x00#8, 0x80#8), (0x01#8, 0x00#8), (0x01#8, 0x7F#8), (0x01#8, 0x80#8), (0x10#8, 0x80#8), (0x11#8, 0x80#8),
      (0x0E#8, 0x80#8), (0xEE#8, 0x80#8)] : List (Byte × Byte)).map (fun p => fires p.1 p.2 0) =
      [false, false, false, true, true, true, false, false] := by
  decide

/-- V16: the sweep latch of 0x27, and V14's code 1024 with the finite flag (V13: `L = 63`). -/
theorem test_trig1_latches :
    after .trig1 (board [(0xFF10, 0x27#8), (0xFF11, 0x3F#8), (0xFF12, 0x2A#8), (0xFF13, 0x00#8), (0xFF14, 0xC4#8),
      (0xFF25, 0x01#8)]) State.st0 =
      some { ChannelState.reset with
        playing := true, rawFrequency := 1024#11, duration := .finite 1, sampleLength := 172, volume := 2#4
        dutyStart := 1#4, dutyEnd := 2#4, envelopeDirection := true, envelopeStep := 2#3
        sweepStep := 7#3, sweepTime := 2#3 } := by
  decide

/-- V18, V23: channel 2 latches its own registers. -/
theorem test_trig2_v23 :
    after .trig2 (board [(0xFF16, 0x7F#8), (0xFF17, 0xF1#8), (0xFF18, 0x00#8), (0xFF19, 0xC4#8), (0xFF25, 0x20#8)])
      (fun t => (t.st1, t.st0)) =
      some ({ ChannelState.reset with
        playing := true, rawFrequency := 1024#11, duration := .finite 1, sampleLength := 172, volume := 15#4
        dutyEnd := 2#4, envelopeStep := 1#3 }, .reset) := by
  decide

/-- V12 for `TRIG2`: 0xDD enables every channel but 2. -/
theorem test_trig2_not_enabled :
    after .trig2 (board [(0xFF19, 0x80#8), (0xFF25, 0xDD#8)]) id =
      some (board [(0xFF19, 0x80#8), (0xFF25, 0xDD#8)]) := by
  decide

/-- V19: nothing is latched. -/
theorem test_trig3_v19 :
    after .trig3 (board [(0xFF1E, 0x87#8), (0xFF25, 0x44#8)]) State.st2 =
      some { ChannelState.reset with playing := true } := by
  decide

/-- P4 step 28: a retrigger clears phase and duration and keeps the rest. -/
theorem test_trig3_retrigger :
    after .trig3 { board [(0xFF1E, 0xC7#8), (0xFF25, 0x44#8)] with
        st2 := { ChannelState.reset with
          playing := true, rawFrequency := 1792#11, duration := .indefinite, sampleLength := 220315, freqDist := 12
          waveShift := 1#3 } } State.st2 =
      some { ChannelState.reset with
        playing := true, rawFrequency := 1792#11, sampleLength := 220315, waveShift := 1#3 } := by
  decide

/-- V21 (b): an envelope that runs is not re-armed. -/
theorem test_live_env_running :
    after .live1Env { board [(0xFF12, 0x2A#8)] with st0 := { p1Note with envelopeStep := 3#3, envelopeCounter := 5 } }
      State.st0 = some { p1Note with envelopeStep := 3#3, envelopeCounter := 5 } := by
  decide

/-- V22 (a): 1750 with the low byte 0x10 is 1552. -/
theorem test_live_flo_v22 :
    after .live1Flo { board [(0xFF13, 0x10#8)] with
        st0 := { p1Note with sweepStep := 7#3, sweepTime := 2#3, sweepCounter := 10, freqDist := 10 } } State.st0 =
      some { p1Note with
        rawFrequency := 1552#11, sweepStep := 7#3, sweepTime := 2#3, sweepCounter := 10, freqDist := 10 } := by
  decide

/-- V22 (c): no sweep, no change. -/
theorem test_live_flo_no_sweep : after .live1Flo (board [(0xFF13, 0xFF#8)]) State.st0 = some .reset := by decide

/-- `LIVE1.SWEEP`, `LIVE1.DUTY` change nothing (end of section 3). -/
theorem test_live_sweep_duty :
    after .live1Sweep (board p1Regs) id = some (board p1Regs) ∧ after .live1Duty (board p1Regs) id = some (board p1Regs) := by
  decide

/-! ## Generators -/

/-- V35. -/
theorem test_gen_v35 :
    after (.gen 4#16) .reset (fun t => (ints t.out1, ints t.out2, ints t.out3, t.st0)) =
      some ([-32768, -32768, -32768, -32768], [-32768, -32768, -32768, -32768], [-32768, -32768, -32768, -32768],
        .reset) := by
  decide

/-- P6 step 9. -/
theorem test_gen_p6 :
    after (.gen 3#16) { board p1Regs with st0 := p1Note } (fun t => (ints t.out1, ints t.out2, t.st0)) =
      some ([16383, 16383, 16383], [-32768, -32768, -32768], { p1Note with freqDist := 3, sampleLength := 220497 }) := by
  decide

/-- Channel 1 of P3 before its step 9. -/
def p3Before : ChannelState :=
  { ChannelState.reset with
    playing := true, rawFrequency := 1024#11, duration := .indefinite, sampleLength := 220156, freqDist := 344
    volume := 10#4, dutyEnd := 2#4, sweepStep := 2#3, sweepTime := 1#3, sweepCounter := 344 }

/-- P3 step 9: the phase wraps, the sweep raises the code, the new period decides the duty. -/
theorem test_gen1_p3_event :
    after (.gen1 1#16) { board [] with st0 := p3Before } (fun t => (ints t.out1, t.st0)) =
      some ([20479], { p3Before with
        rawFrequency := 1536#11, freqDist := 0, sweepCounter := 0, sampleLength := 220155 }) := by
  decide

/-- P3 step 11: overflow, then a silent slot of the channel that is off. -/
theorem test_gen1_p3_overflow :
    after (.gen1 2#16) { board [] with
        st0 := { p3Before with rawFrequency := 1536#11, freqDist := 171, sampleLength := 219811 } }
      (fun t => (ints t.out1, t.st0)) =
      some ([-32768, -32768], { ChannelState.reset with
        rawFrequency := 1536#11, duration := .indefinite, sampleLength := 219810, freqDist := 172, dutyEnd := 2#4 }) := by
  decide

/-- V23: slots 172 (low), 173 (final, silent) and 174 (off). -/
theorem test_gen2_v23_end :
    after (.gen2 3#16) { board [] with
        st1 := { ChannelState.reset with
          playing := true, rawFrequency := 1024#11, duration := .finite 1, sampleLength := 1, freqDist := 171
          volume := 15#4, dutyEnd := 2#4, envelopeStep := 1#3, envelopeCounter := 171 } }
      (fun t => (ints t.out2, t.st1)) =
      some ([-32768, -32768, -32768], { ChannelState.reset with
        rawFrequency := 1024#11, duration := .finite 1, freqDist := 172, volume := 15#4, dutyEnd := 2#4
        envelopeStep := 1#3, envelopeCounter := 172 }) := by
  decide

/-- V30: the 690th slot's envelope event, with its sample at the new volume. -/
theorem test_gen2_v30_event :
    after (.gen2 1#16) { board [] with
        st1 := { ChannelState.reset with
          playing := true, rawFrequency := 1024#11, duration := .indefinite, sampleLength := 219811, freqDist := 344
          volume := 13#4, dutyEnd := 4#4, envelopeDirection := true, envelopeStep := 1#3, envelopeCounter := 689 } }
      (fun t => (ints t.out2, t.st1.volume, t.st1.envelopeCounter, t.st1.freqDist)) =
      some ([28671], 14#4, 0, 0) := by
  decide

/-- P4's wave table and channel-3 registers, with the bytes of `CH3_FHI` and `OUT_SEL` given. -/
def p4Regs (fhi : Byte) (outSel : Byte := 0x44#8) : Memory :=
  [(0xFF1B, 0xFF#8), (0xFF1C, 0x20#8), (0xFF1D, 0x00#8), (0xFF1E, fhi), (0xFF25, outSel),
   (0xFF30, 0x01#8), (0xFF31, 0x23#8), (0xFF32, 0x45#8), (0xFF33, 0x67#8), (0xFF34, 0x89#8), (0xFF35, 0xAB#8),
   (0xFF36, 0xCD#8), (0xFF37, 0xEF#8), (0xFF38, 0xFE#8), (0xFF39, 0xDC#8), (0xFF3A, 0xBA#8), (0xFF3B, 0x98#8),
   (0xFF3C, 0x76#8), (0xFF3D, 0x54#8), (0xFF3E, 0x32#8), (0xFF3F, 0x10#8)]

/-- P4 step 23: the first slots after the trigger, the record re-derived. -/
theorem test_gen3_p4_start :
    after (.gen3 6#16) { board (p4Regs 0x87#8) with st2 := { ChannelState.reset with playing := true } }
      (fun t => (ints t.out3, t.st2)) =
      some ([-32768, -32768, -32768, -32768, -32768, -28399], { ChannelState.reset with
        playing := true, rawFrequency := 1792#11, duration := .indefinite, sampleLength := 220494, freqDist := 6 }) := by
  decide

/-- V44's end: a request of no samples re-derives (here from `L3 = 255`: 172 samples, V43). -/
theorem test_gen3_rederives :
    after (.gen3 0#16) { board (p4Regs 0x47#8) with
        st2 := { ChannelState.reset with playing := true, duration := .indefinite, sampleLength := 7, freqDist := 54 } }
      (fun t => (ints t.out3, t.st2)) =
      some ([], { ChannelState.reset with
        playing := true, rawFrequency := 1792#11, duration := .finite 1, sampleLength := 172, freqDist := 54 }) := by
  decide

/-- V34. -/
theorem test_amplitudes :
    (List.range 16).map (fun v => (amplitude psg (BitVec.ofNat 4 v)).toInt) =
      [0, 2047, 4095, 6143, 8191, 10239, 12287, 14335, 16383, 18431, 20479, 22527, 24575, 26623, 28671, 30719] := by
  decide

/-- V26: the sweep's amount for the code 1000. -/
theorem test_sweep_delta :
    (List.range 8).map (fun k =>
      sweepDelta psg { ChannelState.reset with rawFrequency := 1000#11, sweepStep := BitVec.ofNat 3 k }) =
      [1000, 1000, 500, 250, 125, 62, 31, 15] := by
  decide

/-- V40, columns of shift 0 and 2. -/
theorem test_wave_scale :
    (List.range 16).map (fun k => (waveSample psg 0#3 (BitVec.ofNat 4 k)).toInt) =
      [-32768, -28399, -24030, -19661, -15292, -10923, -6554, -2185, 2184, 6553, 10922, 15291, 19660, 24029, 28398,
        32767] ∧
    (List.range 16).map (fun k => (waveSample psg 2#3 (BitVec.ofNat 4 k)).toInt) =
      [-32768, -32768, -32768, -32768, -28399, -28399, -28399, -28399, -24030, -24030, -24030, -24030, -19661, -19661,
        -19661, -19661] := by
  decide

/-- V33: at `SR = 32000` an envelope of step 2 has its event in slot 1000 and not in slot 999. -/
theorem test_envelope_other_rate :
    envelopeDue { psg with sr := 32000 } { ChannelState.reset with envelopeStep := 2#3, envelopeCounter := 998 } = false ∧
    envelopeDue { psg with sr := 32000 } { ChannelState.reset with envelopeStep := 2#3, envelopeCounter := 999 } = true := by
  decide

/-- A placed 16-bit row runs next: `TRIG1` of P1. -/
theorem test_withFetchWord_dispatch :
    (match step ((board p1Regs).withFetchWord 16 0xFF14) with
      | .next t => some (t.st0, t.pend, t.commands)
      | _ => none) = some (p1Note, false, []) := by
  decide

/-! ## Witnesses: for every statement with hypotheses, states and operands that meet them together -/

/-- Registers of all three channels: enabled, trigger bits set; channel 1 sweeps, channel 3 is finite with `L3 = 255`. -/
def regs : Memory :=
  [(0xFF10, 0x12#8), (0xFF11, 0x80#8), (0xFF12, 0xA1#8), (0xFF13, 0x00#8), (0xFF14, 0x84#8),
   (0xFF16, 0x7F#8), (0xFF17, 0xF1#8), (0xFF18, 0x00#8), (0xFF19, 0xC4#8)] ++ p4Regs 0xC7#8 0x77#8

/-- A square record at the start of an indefinite note. -/
def note : ChannelState := { p1Note with rawFrequency := 1024#11, volume := 10#4, dutyEnd := 2#4 }

/-- A finite note with one sample left. -/
def lastSample : ChannelState := { note with duration := .finite 1, sampleLength := 1 }

/-- Channel 3 as `regs` re-derives it, with `left` samples left. -/
def wave (left : Nat) : ChannelState :=
  { ChannelState.reset with
    playing := true, rawFrequency := 1792#11, duration := .finite 1, sampleLength := left }

/-- All three channels with these records over `regs`. -/
def trio (r1 r2 r3 : ChannelState) : State := { board regs with st0 := r1, st1 := r2, st2 := r3 }

/-- The records a request starts from: the stored ones, and for channel 3 the re-derived one, which `wave` is. -/
theorem trio_startsFrom (r1 r2 : ChannelState) (n : Nat) (c : Fin 3) :
    StartsFrom (trio r1 r2 (wave n)) c (match c with | 0 => r1 | 1 => r2 | 2 => wave n) := by
  match c with
  | 0 => rfl
  | 1 => rfl
  | 2 =>
    have hf : byteAt (trio r1 r2 (wave n)) 0xFF1E#16 = 0xC7 := rfl
    have hl : byteAt (trio r1 r2 (wave n)) 0xFF1B#16 = 0xFF := rfl
    have hd : Claims.waveDuration (trio r1 r2 (wave n)) = .finite 1 := by
      unfold Claims.waveDuration
      rw [hf, hl]
      rfl
    have ho : byteAt (trio r1 r2 (wave n)) 0xFF1D#16 = 0 := rfl
    have hc : codeAt (trio r1 r2 (wave n)) 0xFF1E#16 0xFF1D#16 = 1792 := by
      unfold codeAt
      rw [hf, ho]
    have hs : byteAt (trio r1 r2 (wave n)) 0xFF1C#16 = 0x20 := rfl
    refine .inl ⟨rfl, ?_⟩
    unfold Rederived
    rw [hd, hc, hs]
    rfl

theorem witness_DecodeInvertsEncode :
    WellFormed (.wrOther 0xFF40#16 0xFF#8) ∧ WellFormed (.wrWave 15#4 0#8) ∧ WellFormed (.gen3 0xFFFF#16) ∧
      WellFormed .noroute := by
  decide

theorem witness_CommandWordHasOneMeaning : decodeCommand 0x00FF3FFF#32 = .ok (.wrWave 15#4 0xFF#8) := by decide

theorem witness_StepRunsDecodedCommand :
    ({ State.reset with commands := [0x40000000#32] } : State).commands = 0x40000000#32 :: [] ∧
      decodeCommand 0x40000000#32 = .ok .poll ∧ State.reset.commands = [] := by
  decide

theorem witness_StepRefusesExactlyReservedWords :
    ({ State.reset with commands := [0x80040000#32] } : State).commands = 0x80040000#32 :: [] ∧
      Reserved 0xC0000000#32 ∧ Reserved 0x01000000#32 ∧ Reserved 0x40000001#32 ∧ Reserved 0x80040000#32 ∧
      ¬ Reserved 0x00FFFFFF#32 ∧ ¬ Reserved 0x40000000#32 ∧ ¬ Reserved 0x8003FFFF#32 := by
  decide

theorem witness_EveryOperationIsTotal :
    step { State.reset with commands := [0xC0000000#32] } = .refused (.reservedWord .reservedKind 0xC0000000#32) := rfl

theorem witness_ProgramsRunToTheirEnd :
    ∀ w ∈ ({ State.reset with commands := [0x00FF2511#32, 0x40000000#32, 0x80010003#32] } : State).commands,
      ∃ i, decodeCommand w = .ok i := by
  intro w hw
  simp only [List.mem_cons, List.not_mem_nil, or_false] at hw
  rcases hw with rfl | rfl | rfl
  · exact ⟨.wrOutSel 0x11#8, by decide⟩
  · exact ⟨.poll, by decide⟩
  · exact ⟨.gen1 3#16, by decide⟩

theorem witness_PlacedWordRunsNext :
    decodeTableWord 32 0x8003FFFF = some (.gen3 0xFFFF#16) ∧ decodeTableWord 16 (0xFF14#16 : Addr).toNat = some .trig1 := by
  decide

theorem witness_PollRunsDecodedHandler : (pending 0xFF14#16 regs).pend = true := by decide

theorem witness_PollWithoutUpdateHasNoEffect : (board regs).pend = false := by decide

theorem witness_PollConsumesAndFrames :
    (pending 0xFF25#16 regs).pend = true ∧ (pending 0xFF25#16 regs).pendAddr ≠ 0xFF12#16 ∧
      (pending 0xFF25#16 regs).pendAddr ≠ 0xFF13#16 ∧ (pending 0xFF25#16 regs).pendAddr ≠ 0xFF14#16 ∧
      (pending 0xFF25#16 regs).pendAddr ≠ 0xFF19#16 ∧ (pending 0xFF25#16 regs).pendAddr ≠ 0xFF1E#16 := by
  decide

theorem witness_UnroutedUpdatesAreOnlyConsumed :
    (pending 0xFF10#16 regs).pend = true ∧ (pending 0xFF10#16 regs).pendAddr ∉
      ([0xFF12#16, 0xFF13#16, 0xFF14#16, 0xFF19#16, 0xFF1E#16] : List Addr) := by
  decide

theorem witness_PendingSlotProtocol :
    Instr.trig1.isWrite = false ∧ Instr.trig1 ≠ .poll ∧
      ∃ t, exec .trig1 (board regs) = .next t ∧ t.st0.playing = true :=
  ⟨rfl, by decide, after_some (by decide)⟩

/-- Each channel fires over `regs`; `regs` takes the indefinite clause of channel 1 and the finite one of channel 2, and
the other way round with the other frequency-high bytes. -/
theorem witness_Trig1LatchesChannel1 :
    Fires (board regs) 0 ∧ byteAt (board regs) 0xFF14#16 / 64 % 2 = 0 ∧
      Fires (board [(0xFF14, 0xC0#8), (0xFF25, 0x10#8)]) 0 ∧
      byteAt (board [(0xFF14, 0xC0#8), (0xFF25, 0x10#8)]) 0xFF14#16 / 64 % 2 = 1 := by
  decide

theorem witness_Trig2LatchesChannel2 :
    Fires (board regs) 1 ∧ byteAt (board regs) 0xFF19#16 / 64 % 2 = 1 ∧
      Fires (board [(0xFF19, 0x80#8), (0xFF25, 0x02#8)]) 1 ∧
      byteAt (board [(0xFF19, 0x80#8), (0xFF25, 0x02#8)]) 0xFF19#16 / 64 % 2 = 0 := by
  decide

theorem witness_Trig3OnlyRestartsChannel3 : Fires (board regs) 2 := by decide

/-- Not enabled, and enabled with the trigger bit clear. -/
theorem witness_TriggerNotFiringHasNoEffect :
    ¬ Fires (board [(0xFF14, 0xFF#8), (0xFF25, 0xEE#8)]) 0 ∧ ¬ Fires (board [(0xFF19, 0x7F#8), (0xFF25, 0xFF#8)]) 1 ∧
      ¬ Fires (board [(0xFF1E, 0x80#8), (0xFF25, 0xBB#8)]) 2 := by
  decide

theorem witness_DutyAndFrequencyDecode : Fires (board regs) 0 ∧ Fires (board regs) 1 := by decide

theorem witness_RetriggerAssignsTheSame : Fires (trio note note (wave 1)) 0 ∧ Fires (trio note note (wave 1)) 1 := by
  decide

theorem witness_LiveEnvelopeRearmsOnlyFromZero :
    (board regs).st0.envelopeStep = 0#3 ∧ byteAt (board regs) 0xFF12#16 % 8 ≠ 0 ∧
      ¬ ((board p1Regs).st0.envelopeStep = 0#3 ∧ byteAt (board p1Regs) 0xFF12#16 % 8 ≠ 0) ∧
      ¬ ((trio { note with envelopeStep := 1#3 } note (wave 1)).st0.envelopeStep = 0#3 ∧
        byteAt (trio { note with envelopeStep := 1#3 } note (wave 1)) 0xFF12#16 % 8 ≠ 0) := by
  decide

theorem witness_LiveFrequencyLowOnlyDuringSweep :
    1 ≤ (trio { note with sweepTime := 1#3 } note (wave 1)).st0.sweepTime.toNat ∧ (board regs).st0.sweepTime.toNat = 0 := by
  decide

theorem witness_OffChannelEmitsSilence : ∀ c : Fin 3, (chan (board regs) c).playing = false := by decide

theorem witness_RequestsSplit : (65535#16 : BitVec 16).toNat + (0#16 : BitVec 16).toNat < 65536 := by decide

theorem witness_GeneratorsCommute : (0 : Fin 3) ≠ 2 := by decide

theorem witness_FiniteNoteEndsSilently (c : Fin 3) : ∃ r, 1 ≤ (1#16 : BitVec 16).toNat ∧
    (chan (trio { lastSample with sampleLength := 0 } { lastSample with sampleLength := 0 } (wave 0)) c).playing = true ∧
    StartsFrom (trio { lastSample with sampleLength := 0 } { lastSample with sampleLength := 0 } (wave 0)) c r ∧
    Ended r := by
  refine ⟨_, by decide, ?_, trio_startsFrom _ _ _ c, ?_⟩ <;> revert c <;> decide

/-- Also the witness of the statements with the hypotheses `StartsFrom` and `InWaveform`: a last sample of a finite note. -/
theorem witness_WaveformSlotAdvancesPhaseAndCountsDown (c : Fin 3) :
    ∃ r, StartsFrom (trio lastSample lastSample (wave 1)) c r ∧ InWaveform r := by
  refine ⟨_, trio_startsFrom _ _ _ c, ?_⟩
  revert c
  decide

/-- The sweep's clauses: none, not due, decrease, the largest sum that stays in range and the smallest that does not
(V29). -/
theorem witness_SweepCadenceAndEvent :
    let due : ChannelState := { note with sweepTime := 1#3, sweepStep := 1#3, sweepCounter := 344 }
    InWaveform note ∧ note.sweepTime = 0#3 ∧ ¬ SweepDue note ∧
    InWaveform { due with sweepCounter := 343 } ∧ ¬ SweepDue { due with sweepCounter := 343 } ∧
    InWaveform { due with sweepDirection := true } ∧ SweepDue { due with sweepDirection := true } ∧
    InWaveform { due with rawFrequency := 1023#11 } ∧ SweepDue { due with rawFrequency := 1023#11 } ∧
    ¬ Overflows { due with rawFrequency := 1023#11 } ∧ InWaveform due ∧ Overflows due := by
  decide

/-- Both directions, at both bounds, for channels 1 and 2. -/
theorem witness_EnvelopeEventSaturates :
    let up : ChannelState :=
      { note with envelopeStep := 1#3, envelopeCounter := 689, envelopeDirection := true, volume := 15#4 }
    let down : ChannelState := { note with envelopeStep := 1#3, envelopeCounter := 689, volume := 0#4 }
    ∀ c : Fin 3, c ≠ 2 → InWaveform (chan (trio up down (wave 1)) c) ∧ ¬ Overflows (chan (trio up down (wave 1)) c) ∧
      EnvelopeDue (chan (trio up down (wave 1)) c) ∧ EnvelopeDue (chan (trio down up (wave 1)) c) := by
  decide

theorem witness_EnvelopeCadence :
    let counting : ChannelState := { note with envelopeStep := 1#3, envelopeCounter := 688 }
    ∀ c : Fin 3, c ≠ 2 → InWaveform (chan (trio counting note (wave 1)) c) ∧
      ¬ Overflows (chan (trio counting note (wave 1)) c) ∧ ¬ EnvelopeDue (chan (trio counting note (wave 1)) c) := by
  decide

theorem witness_SquareSampleUsesUpdatedCodeAndVolume :
    ∀ c : Fin 3, c ≠ 2 → InWaveform (chan (trio note lastSample (wave 1)) c) := by
  decide

theorem witness_WaveCallRederives : (trio note note (wave 1)).st2.playing = true ∧ (board regs).st2.playing = false := by
  decide

theorem witness_WaveSampleFromTable : StartsFrom (trio note note (wave 172)) 2 (wave 172) ∧ InWaveform (wave 172) :=
  ⟨trio_startsFrom _ _ _ 2, by decide⟩

/-- Code 2047, whose period is less than one slot, and an indefinite note whose count has run out. -/
theorem witness_WaveSampleFromTable_shortPeriod :
    let r : ChannelState := { ChannelState.reset with playing := true, rawFrequency := 2047#11, duration := .indefinite }
    let s : State := { board [(0xFF1B, 0#8), (0xFF1C, 0x20#8), (0xFF1D, 0xFF#8), (0xFF1E, 0x87#8)] with st2 := r }
    StartsFrom s 2 r ∧ InWaveform r ∧ r.sampleLength = 0 ∧
      after (.gen3 1#16) s (fun t => (decide (44100 * P t.st2 ≤ 65536), t.st2.sampleLength)) = some (true, 220499) :=
  ⟨.inl ⟨rfl, by decide⟩, by decide⟩

/-- A note with samples left, with and without a sweep; requests of both clauses exist: `n ≤ 1` and `n > 1`. -/
theorem witness_FiniteNoteLastsItsLength (c : Fin 3) :
    let down : ChannelState := { lastSample with sweepTime := 1#3, sweepDirection := true }
    ∃ r, StartsFrom (trio down lastSample (wave 1)) c r ∧ r.playing = true ∧ r.duration ≠ .indefinite ∧
      (c = 0 → r.sweepTime = 0#3 ∨ r.sweepDirection = true) ∧ r.sampleLength = 1 := by
  refine ⟨_, trio_startsFrom _ _ _ c, ?_⟩
  revert c
  decide

/-- Channel 3 plays indefinitely when bit 6 of `CH3_FHI` is clear. -/
theorem witness_IndefiniteNotePlaysOn :
    (StartsFrom (trio note note (wave 1)) 0 note ∧ note.playing = true ∧ note.duration = .indefinite ∧
      note.sweepTime = 0#3) ∧
    ∃ r, StartsFrom { board (p4Regs 0x87#8) with st2 := wave 1 } 2 r ∧ r.playing = true ∧ r.duration = .indefinite :=
  ⟨⟨rfl, by decide⟩, _, .inl ⟨rfl, rfl⟩, by decide⟩

/-- Also at the last phase of the period. -/
theorem witness_SquareWaveformIsPeriodic :
    ∀ c : Fin 3, c ≠ 2 → ∀ f ∈ [0, 344],
      let s := trio { note with freqDist := f } { note with freqDist := f } (wave 1)
      (chan s c).playing = true ∧ (chan s c).duration = .indefinite ∧ (chan s c).envelopeStep = 0#3 ∧
        (chan s c).sweepTime = 0#3 ∧ (chan s c).freqDist < periodSlots (chan s c) := by
  decide

/-- Playing: an indefinite note, and a finite one whose last sample is the one of `n = 1`. -/
theorem witness_DecreasingSweepNeverStops :
    let s := trio { note with sweepTime := 7#3, sweepDirection := true } note (wave 1)
    let u := trio { lastSample with sweepTime := 7#3, sweepDirection := true } note (wave 1)
    (s.st0.sweepDirection = true ∧ s.st0.playing = true ∧ s.st0.duration = .indefinite) ∧
      u.st0.sweepDirection = true ∧ u.st0.playing = true ∧ u.st0.duration ≠ .indefinite ∧ u.st0.sampleLength = 1 := by
  decide

theorem witness_NoEnvelopeKeepsVolume :
    ∀ c : Fin 3, c ≠ 2 → (chan (trio note note (wave 1)) c).envelopeStep = 0#3 := by
  decide

/-- Playing, and off. -/
theorem witness_WaveGeneratorMeetsRationalFormulas :
    StartsFrom (trio note note (wave 172)) 2 (wave 172) ∧ StartsFrom (board regs) 2 .reset :=
  ⟨trio_startsFrom _ _ _ 2, .inr ⟨rfl, rfl⟩⟩

theorem witness_DurationTagStandsForMilliseconds :
    Duration.legal 256 (.finite 256) = true ∧ Duration.legal 256 (.finite 1) = true ∧
      Duration.legal 256 .indefinite = true ∧ Duration.legal 256 .zero = true := by
  decide

/-- A trigger starts a channel; a generator stops one: a finite note that ends, and a sweep that overflows. -/
theorem witness_PlayingChangesOnlyByTriggerAndGenerator :
    (∃ t, exec .trig1 (board regs) = .next t ∧ ((chan (board regs) 0).playing, (chan t 0).playing) = (false, true)) ∧
    (∃ t, exec (.gen 2#16) (trio lastSample note (wave 1)) = .next t ∧
      ((chan (trio lastSample note (wave 1)) 0).playing, (chan t 0).playing) = (true, false)) ∧
    (∀ c : Fin 3, ∃ r, StartsFrom (trio lastSample lastSample (wave 1)) c r ∧ r.playing = true) := by
  refine ⟨after_some (by decide), after_some (by decide), fun c => ⟨_, trio_startsFrom _ _ _ c, ?_⟩⟩
  revert c
  decide

theorem witness_Channel2ChangesOnlyByItsTrigger :
    ∃ t, exec .trig2 (board regs) = .next t ∧ decide (t.st1 ≠ (board regs).st1) = true :=
  after_some (by decide)

theorem witness_Channel4NeverChanges : step State.reset = .next State.reset := rfl

/-- Another store with the same bytes at the addresses a `TRIG3` reads; and the live handler while no sweep is active reads
nothing at all. -/
theorem witness_OperationsReadOnlyTheirRegisters :
    (∃ t, exec .trig3 (board regs) = .next t ∧ t.st2.playing = true) ∧ Instr.trig3.isWrite = false ∧
    (∀ a ∈ reads (board regs) .trig3,
      ({ board regs with store := [(0xFF1E, 0xC7#8), (0xFF25, 0x77#8)] } : State).memRead a = (board regs).memRead a) ∧
    reads (board regs) .live1Flo = [] := by
  refine ⟨after_some (by decide), rfl, fun a ha => ?_, by decide⟩
  have h : a = 0xFF25#16 ∨ a = 0xFF1E#16 := by simpa [reads, subReads] using ha
  rcases h with rfl | rfl <;> rfl

theorem witness_AgentsKeepToTheirState :
    (∃ t, exec (.wrCh3On 1#8) (board regs) = .next t ∧ t.pendAddr = 0xFF1A#16) ∧
      (Instr.wrCh3On 1#8).isWrite = true ∧ (Instr.wrCh3On 1#8).issuer ≠ some .backend ∧
      (∃ t, exec (.gen1 1#16) (board regs) = .next t ∧ t.out1 = [0x8000#16]) ∧ (Instr.gen1 1#16).issuer = some .backend :=
  ⟨after_some (by decide), rfl, by decide, after_some (by decide), rfl⟩

theorem witness_StreamsOnlyGrow :
    (match step { trio note note (wave 1) with commands := [0x80000001#32] } with
      | .next t => some (t.out1.length, t.out2.length, t.out3.length)
      | _ => none) = some (1, 1, 1) := by
  decide

/-- A state in which all three channels play meets the invariants, and takes a step. -/
theorem witness_StepKeepsInvariant :
    Inv { trio note note (wave 1) with commands := [0x80000001#32] } ∧
      ∃ t, step { trio note note (wave 1) with commands := [0x80000001#32] } = .next t :=
  ⟨by constructor <;> decide, _, rfl⟩

theorem witness_StepKeepsUnusedFieldsReset :
    UnusedFieldsReset { trio note note (wave 1) with commands := [0x40000000#32] } ∧
      ∃ t, step { trio note note (wave 1) with commands := [0x40000000#32] } = .next t :=
  ⟨by constructor <;> decide, _, rfl⟩

theorem witness_StepKeepsStreamsLegal :
    StreamsLegal { trio note note (wave 1) with commands := [0x80000001#32] } ∧
      ∃ t, step { trio note note (wave 1) with commands := [0x80000001#32] } = .next t :=
  ⟨by constructor <;> simp [trio, board, State.reset], _, rfl⟩

/-- For channel 1: no event, a decrease, an overflow, and an increase of code 0 by 0. -/
theorem witness_PhaseIsBelowPeriodAfterSlot :
    let due : ChannelState := { note with sweepTime := 1#3, sweepStep := 1#3, sweepCounter := 344 }
    (∀ c : Fin 3, ∃ r, StartsFrom (trio note lastSample (wave 1)) c r ∧ InWaveform r ∧ ¬ SweepDue r) ∧
      (InWaveform { due with sweepDirection := true } ∧ SweepDue { due with sweepDirection := true }) ∧
      (InWaveform due ∧ Overflows due) ∧
      InWaveform { due with rawFrequency := 0#11 } ∧ SweepDue { due with rawFrequency := 0#11 } ∧
        sweepAmount { due with rawFrequency := 0#11 } = 0 := by
  refine ⟨fun c => ⟨_, trio_startsFrom _ _ _ c, ?_⟩, by decide⟩
  revert c
  decide

/-- Enabled on one side only, for each channel. -/
theorem witness_NotesStartTheirChannel :
    ∀ c : Fin 3, (byteAt (board [(0xFF25, 0x07#8)]) 0xFF25#16 / 2 ^ c.val % 2 = 1) ∧
      (byteAt (board [(0xFF25, 0x70#8)]) 0xFF25#16 / 2 ^ (c.val + 4) % 2 = 1) := by
  decide

end Sys2Proof.Tests
end

section
/-! What `WR`, `POLL` and the other operations keep, said once for every property of states. -/

namespace Sys2Proof.Machine

/-- A property that the requests, the triggers and the live updates keep, whatever bytes a handler latches: what is left of
the operations when `WR` and `POLL` are taken out. -/
structure KeptByChannelOps (P : State → Prop) : Prop where
  gen1 : ∀ n s, P s → P (runGen1 n s)
  gen2 : ∀ n s, P s → P (runGen2 n s)
  gen3 : ∀ n s, P s → P (runGen3 n s)
  trig1 : ∀ sweep duty env flo fhi s, P s → P (s.setCh1 (latchSweep sweep (latchSquare psg duty env flo fhi s.st0)))
  trig2 : ∀ duty env flo fhi s, P s → P (s.setCh2 (latchSquare psg duty env flo fhi s.st1))
  trig3 : ∀ s, P s → P (s.setCh3 (commonReset s.st2))
  liveEnv : ∀ env s, P s → P (s.setCh1 (latchEnvelope env s.st0))
  liveFlo : ∀ flo s, P s → P (s.setCh1 (replaceFlo flo s.st0))

/-- Such a property is kept by every operation but `WR` and `POLL`. -/
theorem KeptByChannelOps.of_exec {P : State → Prop} (hP : KeptByChannelOps P) {i : Instr} {s t : State}
    (hw : i.isWrite = false) (hp : i ≠ .poll) (hs : P s) (h : exec i s = .next t) : P t := by
  cases i
  case poll => exact absurd rfl hp
  case gen n => cases h; exact hP.gen3 _ _ (hP.gen2 _ _ (hP.gen1 _ _ hs))
  case gen1 n => cases h; exact hP.gen1 _ _ hs
  case gen2 n => cases h; exact hP.gen2 _ _ hs
  case gen3 n => cases h; exact hP.gen3 _ _ hs
  case live1Sweep | live1Duty | noroute => cases h; exact hs
  case live1Env =>
    obtain ⟨-, -, h'⟩ | ⟨-, h'⟩ := execLive1Env_cases s <;> cases h'.symm.trans h
    · exact hP.liveEnv _ _ hs
    · exact hs
  case live1Flo =>
    obtain ⟨-, h'⟩ | ⟨-, h'⟩ := execLive1Flo_cases s <;> cases h'.symm.trans h
    · exact hP.liveFlo _ _ hs
    · exact hs
  case trig1 =>
    obtain ⟨-, h'⟩ | ⟨-, h'⟩ := execTrig1_cases s <;> cases h'.symm.trans h
    · exact hP.trig1 _ _ _ _ _ _ hs
    · exact hs
  case trig2 =>
    obtain ⟨-, h'⟩ | ⟨-, h'⟩ := execTrig2_cases s <;> cases h'.symm.trans h
    · exact hP.trig2 _ _ _ _ _ hs
    · exact hs
  case trig3 =>
    obtain ⟨-, h'⟩ | ⟨-, h'⟩ := execTrig3_cases s <;> cases h'.symm.trans h
    · exact hP.trig3 _ hs
    · exact hs
  all_goals cases hw

/-- Such a property is an invariant of the step if the writes, the slot and the waiting list keep it as well. -/
theorem KeptByChannelOps.of_step {P : State → Prop} (hP : KeptByChannelOps P)
    (hwrite : ∀ s a d, P s → P ((s.memWrite a d).signal a)) (hconsume : ∀ s, P s → P s.consume)
    (hcommands : ∀ s ws, P s → P (s.setCommands ws)) {s t : State} (hs : P s) (h : step s = .next t) : P t := by
  refine step_keeps hcommands hconsume (fun i s t hp hs h => ?_) hs h
  cases hw : i.isWrite with
  | false => exact hP.of_exec hw hp hs h
  | true =>
    obtain ⟨a, d, hi⟩ := exec_isWrite hw
    rw [hi, writeRegister_eq] at h
    cases h
    exact hwrite _ _ _ hs

/-- No operation but `POLL` tests anything before it answers: each has a next state (R240). -/
theorem exec_total_of_ne_poll {i : Instr} (hp : i ≠ .poll) (s : State) : ∃ t, exec i s = .next t := by
  cases i
  case poll => exact absurd rfl hp
  all_goals exact ⟨_, rfl⟩

end Sys2Proof.Machine
end

section
/-! The pending-update slot (R38): who sets it, who clears it, who leaves it. -/

namespace Sys2Proof.Machine

/-- Requests and handlers write records and streams only, so both fields of the slot keep their values. -/
theorem slot_keptByChannelOps (p : Bool) (a : Addr) : KeptByChannelOps fun s => s.pend = p ∧ s.pendAddr = a where
  gen1 _ _ h := h
  gen2 _ _ h := h
  gen3 _ _ h := h
  trig1 _ _ _ _ _ _ h := h
  trig2 _ _ _ _ _ h := h
  trig3 _ h := h
  liveEnv _ _ h := h
  liveFlo _ _ h := h

/-- Every operation but `WR` and `POLL` leaves the slot. -/
theorem exec_slot {i : Instr} {s t : State} (hw : i.isWrite = false) (hp : i ≠ .poll) (h : exec i s = .next t) :
    t.pend = s.pend ∧ t.pendAddr = s.pendAddr :=
  (slot_keptByChannelOps _ _).of_exec hw hp ⟨rfl, rfl⟩ h

/-- `POLL` leaves no update pending and keeps the address (R131, R132). -/
theorem exec_poll_slot (s : State) : ∃ t, exec .poll s = .next t ∧ t.pend = false ∧ t.pendAddr = s.pendAddr := by
  obtain ⟨-, h⟩ | ⟨hpend, h⟩ := execPoll_cases s
  · have hp := decodeDispatch_ne_poll s.pendAddr
    obtain ⟨t, ht⟩ := exec_total_of_ne_poll hp s.consume
    exact ⟨t, h.trans ht, exec_slot (decodeDispatch_kind _).1 hp ht⟩
  · exact ⟨s, h, hpend, rfl⟩

/-- Settles O16: a `WR` is one signal, a `POLL` one consumption and a handler, and the handlers and requests never reach
the slot. -/
theorem pendingSlotProtocol : Obligations.PendingSlotProtocol :=
  ⟨fun a d s => ⟨_, exec_decodeWrite a d s, rfl, rfl⟩, exec_poll_slot, fun _ _ _ hw hp h => exec_slot hw hp h⟩

end Sys2Proof.Machine
end

section
/-! The unused fields (R44): which fields of its record each channel's trigger, live update and slot leave alone. -/

namespace Sys2Proof.Machine

/-- The fields of record 0 that R44 says channel 1 has no use for. -/
abbrev Channel1Unused (r : ChannelState) : Prop := r.waveShift = 0#3

/-- The fields of record 1 that R44 says channel 2 has no use for. -/
abbrev Channel2Unused (r : ChannelState) : Prop :=
  (r.sweepDirection = false ∧ r.sweepStep = 0#3 ∧ r.sweepTime = 0#3 ∧ r.sweepCounter = 0) ∧ r.waveShift = 0#3

/-- The fields of record 2 that R44 says channel 3 has no use for. -/
abbrev Channel3Unused (r : ChannelState) : Prop :=
  r.volume = 0#4 ∧ (r.dutyStart = 0#4 ∧ r.dutyEnd = 0#4) ∧
    (r.envelopeDirection = false ∧ r.envelopeStep = 0#3 ∧ r.envelopeCounter = 0) ∧
    r.sweepDirection = false ∧ r.sweepStep = 0#3 ∧ r.sweepTime = 0#3 ∧ r.sweepCounter = 0

/-- A slot of channel 1 never writes `wave_shift`. -/
theorem outputSlot_waveSlot1_waveShift (cfg : Config) (r : ChannelState) :
    (outputSlot cfg (waveSlot1 cfg) r).1.waveShift = r.waveShift := by
  obtain ⟨-, h⟩ | ⟨-, -, h⟩ | ⟨-, -, h⟩ := outputSlot_cases cfg (waveSlot1 cfg) r <;> rw [h]
  · rfl
  · obtain ⟨-, -, -, -, -, -, -, -, hsweep⟩ := sweepTick_frame cfg (phaseAdvance cfg 131072 (reloadLength cfg r))
    rw [countDown_waveShift, waveSlot1, envelopeTick_frame]
    exact hsweep

/-- The frame of a slot of channel 2: phase, countdown, `playing` and the envelope, no sweep and no shift (R196). -/
theorem outputSlot_waveSlot2_frame (cfg : Config) (r : ChannelState) :
    (outputSlot cfg (waveSlot2 cfg) r).1 = { r with
      freqDist := (outputSlot cfg (waveSlot2 cfg) r).1.freqDist
      sampleLength := (outputSlot cfg (waveSlot2 cfg) r).1.sampleLength
      playing := (outputSlot cfg (waveSlot2 cfg) r).1.playing
      volume := (outputSlot cfg (waveSlot2 cfg) r).1.volume
      envelopeCounter := (outputSlot cfg (waveSlot2 cfg) r).1.envelopeCounter } := by
  obtain ⟨-, h⟩ | ⟨-, -, h⟩ | ⟨-, -, h⟩ := outputSlot_cases cfg (waveSlot2 cfg) r <;> rw [h]
  · rfl
  · rw [waveSlot2, envelopeTick_frame]; rfl

/-- A call of `GEN3` starts from a record whose unused fields are still reset: the re-derivation writes none of them. -/
theorem startGen3_unused {s : State} (h : Channel3Unused s.st2) : Channel3Unused (startGen3 s) := by
  unfold startGen3
  split
  · rwa [rederive_frame]
  · exact h

namespace UnusedFieldsReset

variable {s : State} {r : ChannelState}

theorem setCh1 (h : UnusedFieldsReset s) (hr : Channel1Unused r) : UnusedFieldsReset (s.setCh1 r) :=
  { h with shift0 := hr }

theorem setCh2 (h : UnusedFieldsReset s) (hr : Channel2Unused r) : UnusedFieldsReset (s.setCh2 r) :=
  { h with sweep1 := hr.1, shift1 := hr.2 }

theorem setCh3 (h : UnusedFieldsReset s) (hr : Channel3Unused r) : UnusedFieldsReset (s.setCh3 r) :=
  let ⟨hvolume, hduty, henvelope, hsweep⟩ := hr
  { h with volume2 := hvolume, duty2 := hduty, envelope2 := henvelope, sweep2 := hsweep }

theorem channel2 (h : UnusedFieldsReset s) : Channel2Unused s.st1 := ⟨h.sweep1, h.shift1⟩

theorem channel3 (h : UnusedFieldsReset s) : Channel3Unused s.st2 := ⟨h.volume2, h.duty2, h.envelope2, h.sweep2⟩

end UnusedFieldsReset

/-- `GEN1` writes record 0 by slots that keep the shift; emitting writes no record. -/
theorem runGen1_unusedFieldsReset (n : Nat) {s : State} (h : UnusedFieldsReset s) : UnusedFieldsReset (runGen1 n s) :=
  have hr := runSlots_keeps _ (P := Channel1Unused) (fun r hr => (outputSlot_waveSlot1_waveShift psg r).trans hr) n _
    h.shift0
  { h.setCh1 hr with }

/-- `GEN2` writes record 1 by slots without a sweep. -/
theorem runGen2_unusedFieldsReset (n : Nat) {s : State} (h : UnusedFieldsReset s) : UnusedFieldsReset (runGen2 n s) :=
  have hr := runSlots_keeps _ (P := Channel2Unused) (fun r hr => by rwa [outputSlot_waveSlot2_frame psg r]) n _ h.channel2
  { h.setCh2 hr with }

/-- `GEN3` writes record 2 by slots over the re-derived record, neither with a duty, an envelope or a sweep. -/
theorem runGen3_unusedFieldsReset (n : Nat) {s : State} (h : UnusedFieldsReset s) : UnusedFieldsReset (runGen3 n s) :=
  have hr := runSlots_keeps _ (P := Channel3Unused)
    (fun r hr => by rwa [outputSlot_waveSlot3_frame psg s.waveByte r]) n _ (startGen3_unused h.channel3)
  { h.setCh3 hr with }

/-- No request, trigger or live update writes a field its channel has no use for: a trigger of channel 2 latches no sweep
and one of channel 3 latches nothing. -/
theorem unusedFieldsReset_keptByChannelOps : KeptByChannelOps UnusedFieldsReset where
  gen1 n _ := runGen1_unusedFieldsReset n
  gen2 n _ := runGen2_unusedFieldsReset n
  gen3 n _ := runGen3_unusedFieldsReset n
  trig1 _ _ _ _ _ _ h := h.setCh1 h.shift0
  trig2 _ _ _ _ _ h := h.setCh2 h.channel2
  trig3 _ h := h.setCh3 h.channel3
  liveEnv _ _ h := h.setCh1 h.shift0
  liveFlo _ _ h := h.setCh1 h.shift0

/-- After reset every field holds its reset value. -/
theorem reset_unusedFieldsReset : UnusedFieldsReset State.reset := by
  constructor <;> decide

/-- Settles O56: the unused fields start at 0, and writes, the slot, the waiting list and every operation leave them
there. -/
theorem stepKeepsUnusedFieldsReset : Obligations.StepKeepsUnusedFieldsReset :=
  ⟨reset_unusedFieldsReset, fun _ _ hs h => unusedFieldsReset_keptByChannelOps.of_step
    (fun _ _ _ h => { h with }) (fun _ h => { h with }) (fun _ _ h => { h with }) hs h⟩

end Sys2Proof.Machine
end

section
/-! The update dispatcher without an update to dispatch (R132). -/

namespace Sys2Proof.Machine

/-- `POLL` with no update pending has no effect: of the two cases of `POLL`, the consuming one needs the flag set. -/
theorem exec_poll_of_not_pending {s : State} (hpend : s.pend = false) : exec .poll s = .next s := by
  obtain ⟨hset, -⟩ | ⟨-, h⟩ := execPoll_cases s
  · exact Bool.noConfusion (hset.symm.trans hpend)
  · exact h

/-- Settles O13: without an update `POLL` answers its own state, and a first `POLL` leaves none for the second. -/
theorem pollWithoutUpdateHasNoEffect : Obligations.PollWithoutUpdateHasNoEffect := by
  refine ⟨fun _ => exec_poll_of_not_pending, fun s => ?_⟩
  obtain ⟨t, hfirst, hpend, -⟩ := exec_poll_slot s
  exact ⟨t, hfirst, exec_poll_of_not_pending hpend⟩

end Sys2Proof.Machine
end

section
/-! The fields of the square channels' register bytes (R97, R101 to R105, R152) as numbers: quotients and remainders of the
byte read. -/

namespace Sys2Proof.Machine

open Sys2Proof.Claims

/-- A bit of a byte is the parity of a quotient. -/
theorem byte_getLsbD_eq_decide (b : Byte) (i : Nat) : b.getLsbD i = decide (b.toNat / 2 ^ i % 2 = 1) :=
  Nat.testBit_eq_decide_div_mod_eq

@[simp] theorem volumeField_toNat (b : Byte) : (volumeField b).toNat = b.toNat / 16 := by
  have hb := b.isLt
  rw [volumeField, extract_toNat]
  omega

@[simp] theorem envStepField_toNat (b : Byte) : (envStepField b).toNat = b.toNat % 8 := by
  rw [envStepField, extract_toNat]
  omega

theorem envStepField_eq_zero_iff (b : Byte) : envStepField b = 0#3 ↔ b.toNat % 8 = 0 := by
  rw [← BitVec.toNat_inj, envStepField_toNat, BitVec.toNat_ofNat, Nat.zero_mod]

theorem envDirectionField_eq_decide (b : Byte) : envDirectionField b = decide (b.toNat / 8 % 2 = 1) :=
  byte_getLsbD_eq_decide b 3

@[simp] theorem dutySelector_toNat (b : Byte) : (dutySelector b).toNat = b.toNat / 64 := by
  have hb := b.isLt
  rw [dutySelector, extract_toNat]
  omega

@[simp] theorem frequencyCode_toNat (fhi flo : Byte) :
    (frequencyCode fhi flo).toNat = fhi.toNat % 8 * 256 + flo.toNat := by
  rw [frequencyCode, append_toNat, extract_toNat]
  omega

/-- The table of R154: one row for each of the four selectors. -/
theorem dutyPair_toNat (sel : BitVec 2) :
    ((dutyPair sel).1.toNat, (dutyPair sel).2.toNat) = dutyTable sel.toNat := by
  revert sel
  decide

theorem triggerBit_eq_true_iff (b : Byte) : triggerBit b = true ↔ b.toNat / 128 = 1 := by
  have hb := b.isLt
  rw [triggerBit, byte_getLsbD_eq_decide, decide_eq_true_iff]
  omega

theorem enabled_eq_true_iff (outSel : Byte) (c : Nat) :
    enabled outSel c = true ↔ outSel.toNat / 2 ^ c % 2 = 1 ∨ outSel.toNat / 2 ^ (c + 4) % 2 = 1 := by
  simp only [enabled, byte_getLsbD_eq_decide, Bool.or_eq_true, decide_eq_true_iff]

/-- The model's fire condition is the one the statements speak of (R152). -/
theorem fires_eq_true_iff (s : State) (c : Fin 3) :
    fires (s.memRead Reg.outSel) (s.memRead (fhiOf c)) c = true ↔ Fires s c := by
  rw [fires, Bool.and_eq_true, enabled_eq_true_iff, triggerBit_eq_true_iff]

end Sys2Proof.Machine
end

section
/-! The triggers of the square channels (R160, R161): what a firing one answers, and the duty and the frequency it decodes
(R154, R156). -/

namespace Sys2Proof.Machine

open Sys2Proof.Claims

/-- Of the two cases of `TRIG1`, a firing one latches. -/
theorem exec_trig1_of_fires {s : State} (hf : Fires s 0) :
    exec .trig1 s = .next (s.setCh1 (latchSweep (s.memRead Reg.ch1Sweep) (latchSquare psg (s.memRead Reg.ch1Duty)
      (s.memRead Reg.ch1Env) (s.memRead Reg.ch1Flo) (s.memRead Reg.ch1Fhi) s.st0))) := by
  obtain ⟨-, h⟩ | ⟨hoff, -⟩ := execTrig1_cases s
  · exact h
  · exact Bool.noConfusion (hoff.symm.trans ((fires_eq_true_iff s 0).mpr hf))

/-- Of the two cases of `TRIG2`, a firing one latches. -/
theorem exec_trig2_of_fires {s : State} (hf : Fires s 1) :
    exec .trig2 s = .next (s.setCh2 (latchSquare psg (s.memRead Reg.ch2Duty) (s.memRead Reg.ch2Env)
      (s.memRead Reg.ch2Flo) (s.memRead Reg.ch2Fhi) s.st1)) := by
  obtain ⟨-, h⟩ | ⟨hoff, -⟩ := execTrig2_cases s
  · exact h
  · exact Bool.noConfusion (hoff.symm.trans ((fires_eq_true_iff s 1).mpr hf))

section Latched

variable (cfg : Config) (duty env flo fhi : Byte) (r : ChannelState)

/-- R154: the pair the selector's table gives, whatever else the trigger latches. -/
theorem latchSquare_dutyPair :
    ((latchSquare cfg duty env flo fhi r).dutyStart.toNat, (latchSquare cfg duty env flo fhi r).dutyEnd.toNat) =
      dutyTable (duty.toNat / 64) := by
  rw [← dutySelector_toNat]
  exact dutyPair_toNat _

/-- R156: the code of the frequency registers. -/
theorem latchSquare_rawFrequency_toNat :
    (latchSquare cfg duty env flo fhi r).rawFrequency.toNat = fhi.toNat % 8 * 256 + flo.toNat :=
  frequencyCode_toNat fhi flo

end Latched

/-- R156: the formula takes nothing of a code but its value. -/
theorem frequency_of_toNat_eq {raw : BitVec 11} {k : Nat} (h : raw.toNat = k) :
    Reference.frequency raw = 4194304 / (32 * (2048 - (k : ℚ))) := by
  rw [Reference.frequency, h]

/-- What R154 and R156 leave in a record, from the registers `duty`, `fhi` and `flo` of a square channel. -/
def SquareDecoded (s : State) (duty fhi flo : Addr) (r : ChannelState) : Prop :=
  (r.dutyStart.toNat, r.dutyEnd.toNat) = dutyTable (byteAt s duty / 64) ∧
  r.rawFrequency.toNat = codeAt s fhi flo ∧
  Reference.frequency r.rawFrequency = 4194304 / (32 * (2048 - (codeAt s fhi flo : ℚ)))

/-- The latch the square channels share decodes the bytes it is given (R154, R156). -/
theorem latchSquare_decoded (s : State) (duty fhi flo : Addr) (env : Byte) (r : ChannelState) :
    SquareDecoded s duty fhi flo (latchSquare psg (s.memRead duty) env (s.memRead flo) (s.memRead fhi) r) :=
  have hcode := latchSquare_rawFrequency_toNat ..
  ⟨latchSquare_dutyPair .., hcode, frequency_of_toNat_eq hcode⟩

/-- Settles O22: each firing trigger decodes through the shared latch of the square channels, the sweep latch of channel 1
touches neither decode, and the formula of R156 is evaluated at both ends of the code's range. -/
theorem dutyAndFrequencyDecode : Obligations.DutyAndFrequencyDecode := by
  refine ⟨fun s hf => ?_, fun s hf => ?_, ?_, ?_⟩
  · have hdecoded := latchSquare_decoded s 0xFF11#16 0xFF14#16 0xFF13#16 (s.memRead Reg.ch1Env) s.st0
    exact ⟨_, exec_trig1_of_fires hf, hdecoded⟩
  · have hdecoded := latchSquare_decoded s 0xFF16#16 0xFF19#16 0xFF18#16 (s.memRead Reg.ch2Env) s.st1
    exact ⟨_, exec_trig2_of_fires hf, hdecoded⟩
  · norm_num [Reference.frequency]
  · norm_num [Reference.frequency]

end Sys2Proof.Machine
end

section
/-! The live envelope update of channel 1 (R172). -/

namespace Sys2Proof.Machine

open Sys2Proof.Claims

/-- Settles O24: the two cases of `LIVE1.ENV` are the two clauses, once the step field of the byte is read as a number. -/
theorem liveEnvelopeRearmsOnlyFromZero : Obligations.LiveEnvelopeRearmsOnlyFromZero := by
  intro s
  have hstep : envStepField (s.memRead Reg.ch1Env) ≠ 0#3 ↔ byteAt s 0xFF12#16 % 8 ≠ 0 :=
    not_congr (envStepField_eq_zero_iff _)
  obtain ⟨hzero, hfield, h⟩ | ⟨hidle, h⟩ := execLive1Env_cases s
  · exact ⟨fun _ _ => ⟨_, h, rfl, volumeField_toNat _, envDirectionField_eq_decide _, envStepField_toNat _⟩,
      fun hkeep => absurd ⟨hzero, hstep.mp hfield⟩ hkeep⟩
  · exact ⟨fun hzero hbyte => absurd ⟨hzero, hstep.mpr hbyte⟩ hidle, fun _ => h⟩

end Sys2Proof.Machine
end

section
/-! A request of one channel, said once for all three: which record its slots start from, which waveform they play, and
where record and samples go (R181, R195, R196, R229). -/

namespace Sys2Proof.Machine

open Sys2Proof.Claims

section OneChannel

variable (s : State) (c : Fin 3) (r : ChannelState) (vs : List Sample)

/-- The record the slots of a request start from: for channel 3 the re-derived one (R221). -/
def startOf : Fin 3 → ChannelState
  | 0 => s.st0
  | 1 => s.st1
  | 2 => startGen3 s

/-- The waveform slot of a channel; channel 3 plays the wave table of the store. -/
def waveOf : Fin 3 → ChannelState → ChannelState × Sample
  | 0 => waveSlot1 psg
  | 1 => waveSlot2 psg
  | 2 => waveSlot3 psg s.waveByte

@[simp] theorem withChan_chan : withChan s c (chan s c) = s :=
  match c with
  | 0 | 1 | 2 => rfl

@[simp] theorem chan_withChan : chan (withChan s c r) c = r :=
  match c with
  | 0 | 1 | 2 => rfl

@[simp] theorem chan_withEmitted : chan (withEmitted s c vs) c = chan s c :=
  match c with
  | 0 | 1 | 2 => rfl

/-- Every one-channel request runs its slots, stores the record they leave and emits their samples. -/
theorem exec_genOf (n : BitVec 16) :
    exec (genOf c n) s =
      .next (withEmitted (withChan s c (runSlots (outputSlot psg (waveOf s c)) n.toNat (startOf s c)).1) c
        (runSlots (outputSlot psg (waveOf s c)) n.toNat (startOf s c)).2) :=
  match c with
  | 0 | 1 | 2 => rfl

/-- Only channel 3 re-derives its record. -/
theorem startOf_square {c : Fin 3} (hc : c ≠ 2) : startOf s c = chan s c :=
  match c with
  | 0 | 1 => rfl
  | 2 => absurd rfl hc

/-- An off channel re-derives nothing (R221). -/
theorem startOf_off {c : Fin 3} (hoff : (chan s c).playing = false) : startOf s c = chan s c :=
  match c with
  | 0 | 1 => rfl
  | 2 => if_neg (Bool.eq_false_iff.mp hoff)

end OneChannel

/-- Settles O28: the slots of an off channel start from its record as it is, and each emits the floor and leaves it. -/
theorem offChannelEmitsSilence : Obligations.OffChannelEmitsSilence := by
  intro n s c hoff
  rw [exec_genOf, startOf_off s hoff, runSlots_off psg _ _ hoff, withChan_chan]
  rfl

end Sys2Proof.Machine
end

section
/-! The envelope of one waveform slot of a square channel (R189 to R191): the record it works on, and its events. -/

namespace Sys2Proof.Machine

open Sys2Proof.Claims

/-- The record the envelope step of a waveform slot works on: after the phase and, for channel 1, the sweep (R191). -/
def beforeEnvelope : Fin 3 → ChannelState → ChannelState
  | 0, r => sweepTick psg (phaseAdvance psg 131072 r)
  | _, r => phaseAdvance psg 131072 r

/-- A waveform slot of a square channel leaves what its envelope step leaves. -/
theorem waveOf_square (s : State) {c : Fin 3} (hc : c ≠ 2) (r : ChannelState) :
    (waveOf s c r).1 = envelopeTick psg (beforeEnvelope c r) :=
  match c with
  | 0 | 1 => rfl
  | 2 => absurd rfl hc

/-- One waveform slot of a square channel: reload, the steps up to the envelope, the envelope, countdown. -/
theorem exec_genOf_one_square {s : State} {c : Fin 3} (hc : c ≠ 2) (hw : InWaveform (chan s c)) :
    ∃ t, exec (genOf c 1#16) s = .next t ∧
      chan t c = countDown (envelopeTick psg (beforeEnvelope c (reloadLength psg (chan s c)))) := by
  obtain ⟨hplaying, hnote⟩ := hw
  have hgoes : noteEnded (chan s c) = false :=
    Bool.eq_false_iff.mpr fun hended => hnote ((noteEnded_eq_true _).mp hended)
  refine ⟨_, exec_genOf s c 1#16, ?_⟩
  rw [chan_withEmitted, chan_withChan, startOf_square s hc, ← waveOf_square s hc]
  exact congrArg Prod.fst (outputSlot_wave psg (waveOf s c) _ hplaying hgoes)

/-- The sweep's amount as the statements write it (R188). -/
theorem sweepDelta_psg (r : ChannelState) : sweepDelta psg r = sweepAmount r := by
  rw [sweepDelta, Nat.shiftRight_eq_div_pow]
  rfl

/-- Short of an overflow the sweep leaves the envelope's step and the volume (R187, R188). -/
theorem sweepTick_volume_of_not_overflows {r : ChannelState} (h : ¬ Overflows r) :
    (sweepTick psg r).volume = r.volume ∧ (sweepTick psg r).envelopeStep = r.envelopeStep := by
  obtain ⟨-, ht⟩ | ⟨-, -, ht⟩ | ⟨htime, hdue, hup, hover, -⟩ | ⟨-, -, -, -, ht⟩ | ⟨-, -, -, ht⟩ :=
    sweepTick_cases psg r
  case inr.inr.inl =>
    rw [sweepOverflows_iff, sweepDelta_psg] at hover
    exact absurd ⟨⟨htime, (sweepDue_iff psg r).mp hdue⟩, hup, hover⟩ h
  all_goals rw [ht]; exact ⟨rfl, rfl⟩

/-- Up to the envelope step a waveform slot without a sweep overflow leaves all the envelope works with. -/
theorem beforeEnvelope_frame {c : Fin 3} {r : ChannelState} (h : c = 0 → ¬ Overflows r) :
    (beforeEnvelope c r).volume = r.volume ∧ (beforeEnvelope c r).envelopeStep = r.envelopeStep ∧
      (beforeEnvelope c r).envelopeDirection = r.envelopeDirection ∧
      (beforeEnvelope c r).envelopeCounter = r.envelopeCounter := by
  match c with
  | 0 =>
    obtain ⟨hvolume, hstep⟩ := sweepTick_volume_of_not_overflows (r := phaseAdvance psg 131072 r) (h rfl)
    obtain ⟨-, -, -, -, -, hcounter, hdirection, -, -⟩ := sweepTick_frame psg (phaseAdvance psg 131072 r)
    exact ⟨hvolume, hstep, hdirection, hcounter⟩
  | 1 | 2 => exact ⟨rfl, rfl, rfl, rfl⟩

/-- Of the three cases of the envelope step, one that is due is an event and restarts the counter (R189). -/
theorem envelopeTick_of_due {r : ChannelState} (h : EnvelopeDue r) :
    envelopeTick psg r = { envelopeEvent r with envelopeCounter := 0 } := by
  obtain ⟨hstep, hdue⟩ := h
  obtain ⟨hzero, -⟩ | ⟨-, hcounts, -⟩ | ⟨-, -, ht⟩ := envelopeTick_cases psg r
  · exact absurd hzero hstep
  · exact absurd ((envelopeDue_iff psg r).mpr hdue) (Bool.eq_false_iff.mp hcounts)
  · exact ht

/-- Upwards the volume saturates at 15 (R190). -/
theorem envelopeEvent_volume_up {r : ChannelState} (h : r.envelopeDirection = true) :
    (envelopeEvent r).volume.toNat = min 15 (r.volume.toNat + 1) := by
  rw [envelopeEvent_volume, if_pos h, BitVec.toNat_ofNat]
  omega

/-- Downwards the volume saturates at 0 (R190). -/
theorem envelopeEvent_volume_down {r : ChannelState} (h : r.envelopeDirection = false) :
    (envelopeEvent r).volume.toNat = r.volume.toNat - 1 := by
  have hvolume := r.volume.isLt
  rw [envelopeEvent_volume, if_neg (Bool.eq_false_iff.mp h), BitVec.toNat_ofNat]
  omega

/-- Settles O35: the envelope's fields reach its step as the slot found them, the step is an event, and the event
saturates. -/
theorem envelopeEventSaturates : Obligations.EnvelopeEventSaturates := by
  intro s c hc hw hover hdue
  obtain ⟨t, hexec, ht⟩ := exec_genOf_one_square hc hw
  obtain ⟨hvolume, hstep, hdirection, hcounter⟩ := beforeEnvelope_frame (r := reloadLength psg (chan s c)) hover
  have hdue' : EnvelopeDue (beforeEnvelope c (reloadLength psg (chan s c))) := by
    rwa [EnvelopeDue, hstep, hcounter]
  rw [envelopeTick_of_due hdue'] at ht
  refine ⟨t, hexec, fun hup => ?_, fun hdown => ?_, ?_, ?_⟩ <;> rw [ht]
  · exact hvolume ▸ envelopeEvent_volume_up (hdirection.trans hup)
  · exact hvolume ▸ envelopeEvent_volume_down (hdirection.trans hdown)
  · exact hstep
  · rfl

end Sys2Proof.Machine
end

section
/-! The record the slots of a request start from, as the statements write it: the channel-3 registers in numbers, and the
re-derivation of R222. -/

namespace Sys2Proof.Machine

open Sys2Proof.Claims

theorem continuousFlag_eq_true_iff (b : Byte) : continuousFlag b = true ↔ b.toNat / 64 % 2 ≠ 0 := by
  rw [continuousFlag, byte_getLsbD_eq_decide, decide_eq_true_iff]
  omega

@[simp] theorem levelSelector_toNat (b : Byte) : (levelSelector b).toNat = b.toNat / 32 % 4 :=
  extract_toNat 5 2 b

/-- The table of R222: one row for each of the four selectors. -/
theorem shiftOf_eq_shiftTable (sel : BitVec 2) : shiftOf sel = BitVec.ofNat 3 (shiftTable sel.toNat) := by
  revert sel
  decide

theorem frequencyCode_eq_codeAt (s : State) (fhi flo : Addr) :
    frequencyCode (s.memRead fhi) (s.memRead flo) = BitVec.ofNat 11 (codeAt s fhi flo) := by
  rw [codeAt, ← frequencyCode_toNat, BitVec.ofNat_toNat, BitVec.setWidth_eq]

theorem ch3Length_psg (b : Byte) : ch3Length psg b = b.toNat := Nat.mod_eq_of_lt b.isLt

theorem samples_psg (d : Duration) : Duration.samples psg d = lengthOf d :=
  match d with
  | .zero | .indefinite | .finite _ => rfl

/-- The duration the model derives from the registers is the statements' (R222): the continuous flag decides. -/
theorem waveDuration_registers (s : State) :
    waveDuration psg (s.memRead Reg.ch3Len) (s.memRead Reg.ch3Fhi) = Claims.waveDuration s := by
  have hflag := continuousFlag_eq_true_iff (s.memRead Reg.ch3Fhi)
  rw [waveDuration, Claims.waveDuration, ch3Length_psg]
  by_cases hclear : byteAt s 0xFF1E#16 / 64 % 2 = 0
  · rw [if_pos hclear, if_neg fun hset => hflag.mp hset hclear]
  · rw [if_neg hclear, if_pos (hflag.mpr hclear)]
    rfl

/-- While channel 3 plays, its slots start from the re-derived record (R221, R222). -/
theorem startGen3_rederived {s : State} (hplaying : s.st2.playing = true) : Rederived s (startGen3 s) := by
  rw [startGen3, if_pos hplaying, Rederived, rederive_frame, rederive_rawFrequency, rederive_duration,
    rederive_sampleLength, rederive_waveShift, waveDuration_registers, samples_psg, shiftOf_eq_shiftTable,
    levelSelector_toNat, frequencyCode_eq_codeAt]

/-- The statements' start of a request is the model's, for every channel. -/
theorem startOf_of_startsFrom {s : State} {c : Fin 3} {r : ChannelState} (h : StartsFrom s c r) : startOf s c = r :=
  match c with
  | 0 | 1 => h.symm
  | 2 => by
    obtain ⟨hplaying, hr⟩ | ⟨hoff, hr⟩ := h
    · exact (startGen3_rederived hplaying).trans hr.symm
    · exact (startOf_off s (c := 2) hoff).trans hr.symm

/-- A request of one sample in a waveform slot, for every channel: reload, waveform slot, countdown (R195, R196, R229). -/
theorem exec_genOf_one {s : State} {c : Fin 3} {r : ChannelState} (hstart : StartsFrom s c r) (hw : InWaveform r) :
    exec (genOf c 1#16) s =
      .next (withEmitted (withChan s c (countDown (waveOf s c (reloadLength psg r)).1)) c
        [(waveOf s c (reloadLength psg r)).2]) := by
  obtain ⟨hplaying, hnote⟩ := hw
  have hgoes : noteEnded r = false := Bool.eq_false_iff.mpr fun hended => hnote ((noteEnded_eq_true _).mp hended)
  have hcount : (1#16).toNat = 1 := rfl
  rw [exec_genOf, startOf_of_startsFrom hstart, hcount, runSlots_one, outputSlot_wave _ _ _ hplaying hgoes]

end Sys2Proof.Machine
end

section
/-! The sample of channel 3 (R225 to R228): the playback pointer stays inside the wave table, it is the floor of the
source's formula, and it selects the nibble. -/

namespace Sys2Proof.Machine

open Sys2Proof.Claims

theorem periodCode_pos (r : ChannelState) : 0 < r.periodCode := by
  have hcode := r.rawFrequency.isLt
  rw [ChannelState.periodCode]
  omega

/-- The phase a waveform slot of channel 3 leaves is below the period, also from a phase that was not (R225). -/
theorem phaseAdvance_in_period (r : ChannelState) : PhaseInPeriod 65536 (phaseAdvance psg 65536 r) := by
  have hpos := periodCode_pos r
  rw [PhaseInPeriod, phaseAdvance_periodCode, psg_sr]
  obtain ⟨-, hphase⟩ | ⟨hlt, hphase⟩ := phaseAdvance_freqDist_cases psg r 65536 <;> rw [hphase]
  · omega
  · exact hlt

/-- A period of at most one slot wraps in every slot (R225). -/
theorem phaseAdvance_short_period {r : ChannelState} (h : 44100 * r.periodCode ≤ 65536) :
    (phaseAdvance psg 65536 r).freqDist = 0 := by
  obtain ⟨-, hphase⟩ | ⟨hlt, -⟩ := phaseAdvance_freqDist_cases psg r 65536
  · exact hphase
  · rw [psg_sr] at hlt
    omega

/-- Inside the period the pointer is inside the table before the `mod 32` of R226. -/
theorem wavePointer_lt {r : ChannelState} (h : PhaseInPeriod 65536 r) :
    r.freqDist * 2 ^ 21 / (44100 * r.periodCode) < 32 := by
  have hpos := periodCode_pos r
  rw [PhaseInPeriod, psg_sr] at h
  refine (Nat.div_lt_iff_lt_mul (by omega)).mpr ?_
  calc r.freqDist * 2 ^ 21 = 32 * (r.freqDist * 65536) := by ring
    _ < 32 * (44100 * r.periodCode) := Nat.mul_lt_mul_of_pos_left h (by decide)

/-- The step of the pointer in exact arithmetic (R222, R226). -/
theorem waveStep_eq (r : ChannelState) :
    Reference.waveStep r.rawFrequency = ((44100 * r.periodCode : ℕ) : ℚ) / ((2 ^ 21 : ℕ) : ℚ) := by
  have hcode : (r.periodCode : ℚ) = 2048 - (r.rawFrequency.toNat : ℚ) := Nat.cast_sub r.rawFrequency.isLt.le
  have hpos : (r.periodCode : ℚ) ≠ 0 := Nat.cast_ne_zero.mpr (periodCode_pos r).ne'
  rw [Reference.waveStep, Reference.freqSamples3, Reference.frequency3, Reference.frequency, ← hcode]
  push_cast
  field_simp
  norm_num

/-- The natural quotient is the floor of the source's rational one (R226, R10). -/
theorem floor_div_waveStep (r : ChannelState) :
    ⌊(r.freqDist : ℚ) / Reference.waveStep r.rawFrequency⌋ =
      ((r.freqDist * 2 ^ 21 / (44100 * r.periodCode) : ℕ) : ℤ) := by
  rw [waveStep_eq, div_div_eq_mul_div, ← Nat.cast_mul, Rat.floor_natCast_div_natCast]
  rfl

/-- Entry `idx` as a number: the high digit of its byte for an even index (R227). -/
theorem nibble_toNat (idx : Nat) (b : Byte) :
    (nibble idx b).toNat = if idx % 2 = 0 then b.toNat / 16 else b.toNat % 16 := by
  obtain ⟨j, rfl | rfl⟩ := Nat.even_or_odd' idx
  · rw [if_pos (by omega), nibble_even]
  · rw [if_neg (by omega), nibble_odd]

/-- Byte `j` of the wave table by its address (R227). -/
theorem waveByte_eq_memRead (s : State) (j : Nat) : s.waveByte j = s.memRead (BitVec.ofNat 16 (0xFF30 + j)) := by
  rw [State.waveByte, BitVec.ofNat_add]

/-- Settles O39: the slot's phase is inside the period, so the pointer is inside the table, and the sample is the exact
value of the nibble it selects. -/
theorem waveSampleFromTable : Obligations.WaveSampleFromTable := by
  intro s r hstart hw
  have hexec := exec_genOf_one hstart hw
  have hinside := wavePointer_lt (phaseAdvance_in_period (reloadLength psg r))
  have hfloor := floor_div_waveStep (phaseAdvance psg 65536 (reloadLength psg r))
  refine ⟨_, _, waveIndex psg (phaseAdvance psg 65536 (reloadLength psg r)), _, hexec, rfl, ?_, rfl, hinside,
    fun hshort => ?_, rfl, ?_, rfl⟩
  · exact congrArg (fun z : ℤ => z.toNat % 32) hfloor.symm
  · have hphase := phaseAdvance_short_period (r := reloadLength psg r) hshort
    exact ⟨hphase, by rw [waveIndex, hphase, Nat.zero_mul, Nat.zero_div]⟩
  · refine (waveSample_toInt _ _).trans ?_
    rw [Nat.shiftRight_eq_div_pow, nibble_toNat, waveByte_eq_memRead]
    rfl

end Sys2Proof.Machine
end

section
/-! Totality (R240): every operation answers a next state, and a step can stop only at a word that does not decode. -/

namespace Sys2Proof.Machine

/-- Every operation has a next state in every state: `POLL` through the handler it runs, the others directly. -/
theorem exec_total (i : Instr) (s : State) : ∃ t, exec i s = .next t := by
  by_cases hp : i = .poll
  · obtain ⟨t, ht, -⟩ := exec_poll_slot s
    exact ⟨t, hp ▸ ht⟩
  · exact exec_total_of_ne_poll hp s

/-- Everything a step can answer: a next state, or the refusal of the word it took, which does not decode (R95, R240). -/
theorem step_outcome (s : State) :
    (∃ t, step s = .next t) ∨
    (∃ w rest why, s.commands = w :: rest ∧ decodeCommand w = .error why ∧
      step s = .refused (.reservedWord why w)) := by
  cases hc : s.commands with
  | nil => exact .inl ⟨s, by rw [step, hc]⟩
  | cons w rest =>
    cases hw : decodeCommand w with
    | ok i =>
      obtain ⟨t, ht⟩ := exec_total i (s.setCommands rest)
      exact .inl ⟨t, by simpa only [step, hc, hw] using ht⟩
    | error why => exact .inr ⟨w, rest, why, rfl, hw, by simp only [step, hc, hw]⟩

/-- Settles O7: the operations are total, and neither of a step's two answers is a fault; the refusal is of a word that
does not decode. -/
theorem everyOperationIsTotal : Obligations.EveryOperationIsTotal := by
  refine ⟨exec_total, fun s r hfault => ?_, fun s r hrefused => ?_⟩
  · obtain ⟨t, h⟩ | ⟨w, rest, why, -, -, h⟩ := step_outcome s <;> cases h.symm.trans hfault
  · obtain ⟨t, h⟩ | ⟨w, rest, why, hc, hw, h⟩ := step_outcome s <;> cases h.symm.trans hrefused
    exact ⟨w, rest, why, hc, hw, rfl⟩

end Sys2Proof.Machine
end

section
/-! Channel 2 has no live update (R284): outside its generator only a `TRIG2` that fires, run by itself or by the `POLL`
that routes to it, writes its record. -/

namespace Sys2Proof.Machine

open Sys2Proof.Claims

/-- The dispatch decode answers `TRIG2` for one address only (R96). -/
theorem eq_ch2Fhi_of_decodeDispatch_trig2 {a : Addr} (h : decodeDispatch a = .trig2) : a = Reg.ch2Fhi := by
  obtain ⟨-, h'⟩ | ⟨-, h'⟩ | ⟨-, h'⟩ | ⟨-, h'⟩ | ⟨-, h'⟩ | ⟨ha, -⟩ | ⟨-, h'⟩ | ⟨-, h'⟩ := decodeDispatch_cases a
  case inr.inr.inr.inr.inr.inl => exact ha
  all_goals cases h'.symm.trans h

/-- Of the two cases of `TRIG2`, one that changes record 1 is the firing one. -/
theorem fires_of_exec_trig2 {s t : State} (h : exec .trig2 s = .next t) (hne : t.st1 ≠ s.st1) : Fires s 1 := by
  obtain ⟨hf, -⟩ | ⟨-, h'⟩ := execTrig2_cases s
  · exact (fires_eq_true_iff s 1).mp hf
  · cases h'.symm.trans h
    exact absurd rfl hne

/-- Writes reach no record, and the other channels' requests, triggers and live updates write their own. -/
theorem exec_st1 {i : Instr} {s t : State} (hgen : ∀ n, i ≠ .gen n ∧ i ≠ .gen2 n) (hpoll : i ≠ .poll)
    (htrig : i ≠ .trig2) (h : exec i s = .next t) : t.st1 = s.st1 := by
  cases i
  case gen n => exact absurd rfl (hgen n).1
  case gen2 n => exact absurd rfl (hgen n).2
  case poll => exact absurd rfl hpoll
  case trig2 => exact absurd rfl htrig
  case live1Env => obtain ⟨-, -, h'⟩ | ⟨-, h'⟩ := execLive1Env_cases s <;> cases h'.symm.trans h <;> rfl
  case live1Flo => obtain ⟨-, h'⟩ | ⟨-, h'⟩ := execLive1Flo_cases s <;> cases h'.symm.trans h <;> rfl
  case trig1 => obtain ⟨-, h'⟩ | ⟨-, h'⟩ := execTrig1_cases s <;> cases h'.symm.trans h <;> rfl
  case trig3 => obtain ⟨-, h'⟩ | ⟨-, h'⟩ := execTrig3_cases s <;> cases h'.symm.trans h <;> rfl
  all_goals cases h; rfl

/-- Outside `POLL` and the requests that reach channel 2, a changed record 1 is the work of a `TRIG2` that fires. -/
theorem trig2_fires_of_st1_ne {i : Instr} {s t : State} (hgen : ∀ n, i ≠ .gen n ∧ i ≠ .gen2 n) (hpoll : i ≠ .poll)
    (h : exec i s = .next t) (hne : t.st1 ≠ s.st1) : i = .trig2 ∧ Fires s 1 := by
  by_cases htrig : i = .trig2
  · subst htrig
    exact ⟨rfl, fires_of_exec_trig2 h hne⟩
  · exact absurd (exec_st1 hgen hpoll htrig h) hne

/-- A dispatched sub-operation is no request. -/
theorem decodeDispatch_ne_gen (a : Addr) (n : BitVec 16) : decodeDispatch a ≠ .gen n ∧ decodeDispatch a ≠ .gen2 n := by
  have hissuer := (decodeDispatch_kind a).2
  constructor <;> intro h <;> cases (congrArg Instr.issuer h).symm.trans hissuer

/-- Settles O49: a `POLL` that changes record 1 has consumed an update and run a handler that changes it, so the update
was `TRIG2`'s; consuming changes neither the record nor what the fire condition reads. -/
theorem channel2ChangesOnlyByItsTrigger : Obligations.Channel2ChangesOnlyByItsTrigger := by
  intro i s t h hgen hne
  by_cases hpoll : i = .poll
  · subst hpoll
    obtain ⟨hpend, h'⟩ | ⟨-, h'⟩ := execPoll_cases s
    · obtain ⟨hroute, hfires⟩ := trig2_fires_of_st1_ne (decodeDispatch_ne_gen _) (decodeDispatch_ne_poll _)
        (h'.symm.trans h) hne
      exact ⟨.inr ⟨rfl, hpend, eq_ch2Fhi_of_decodeDispatch_trig2 hroute⟩, hfires⟩
    · cases h'.symm.trans h
      exact absurd rfl hne
  · obtain ⟨htrig, hfires⟩ := trig2_fires_of_st1_ne hgen hpoll h hne
    exact ⟨.inl htrig, hfires⟩

end Sys2Proof.Machine
end

section
/-! The decoders and the encoder (R91 to R96, R120): everything a command word can decode to, and the round trips. -/

namespace Sys2Proof

open Sys2Proof.Claims

/-- A word of format W is the encoding of its address and its data byte (R92). -/
theorem eq_writeWord_of_fields {w : CommandWord} (hkind : kindField w = 0#2) (hzero : writeZeroField w = 0#6) :
    w = writeWord (addrField w) (dataField w) := by
  have hw := w.isLt
  have hkind := congrArg BitVec.toNat hkind
  have hzero := congrArg BitVec.toNat hzero
  rw [kindField_toNat, BitVec.toNat_ofNat] at hkind
  rw [writeZeroField_toNat, BitVec.toNat_ofNat] at hzero
  apply BitVec.eq_of_toNat_eq
  rw [writeWord_toNat, addrField_toNat, dataField_toNat]
  omega

/-- Format P has one word (R93). -/
theorem eq_pollWord_of_fields {w : CommandWord} (hkind : kindField w = 1#2) (hzero : pollZeroField w = 0#30) :
    w = 0x40000000#32 := by
  have hw := w.isLt
  have hkind := congrArg BitVec.toNat hkind
  have hzero := congrArg BitVec.toNat hzero
  rw [kindField_toNat, BitVec.toNat_ofNat] at hkind
  rw [pollZeroField_toNat, BitVec.toNat_ofNat] at hzero
  apply BitVec.eq_of_toNat_eq
  rw [BitVec.toNat_ofNat]
  omega

/-- A word of format G is the encoding of its channel selector and its count (R94). -/
theorem eq_requestWord_of_fields {w : CommandWord} (hkind : kindField w = 2#2) (hzero : genZeroField w = 0#12) :
    w = requestWord (channelField w) (countField w) := by
  have hw := w.isLt
  have hkind := congrArg BitVec.toNat hkind
  have hzero := congrArg BitVec.toNat hzero
  rw [kindField_toNat, BitVec.toNat_ofNat] at hkind
  rw [genZeroField_toNat, BitVec.toNat_ofNat] at hzero
  apply BitVec.eq_of_toNat_eq
  rw [requestWord_toNat, channelField_toNat, countField_toNat]
  omega

/-- A command word is an encoded `WR`, the `POLL` word, an encoded `GEN`, or reserved, and decodes accordingly (R91 to
R95). -/
theorem decodeCommand_cases (w : CommandWord) :
    (∃ a d, w = writeWord a d ∧ decodeCommand w = .ok (decodeWrite a d)) ∨
    (w = 0x40000000#32 ∧ decodeCommand w = .ok .poll) ∨
    (∃ ch n, w = requestWord ch n ∧ decodeCommand w = .ok (decodeRequest ch n)) ∨
    (Reserved w ∧ ∃ why, decodeCommand w = .error why) := by
  by_cases hwrite : kindField w = 0#2
  · by_cases hzero : writeZeroField w = 0#6
    · exact .inl ⟨_, _, eq_writeWord_of_fields hwrite hzero, by simp [decodeCommand, hwrite, hzero]⟩
    · exact .inr (.inr (.inr ⟨.inr (.inl ⟨hwrite, hzero⟩), .nonZeroField, by simp [decodeCommand, hwrite, hzero]⟩))
  by_cases hpoll : kindField w = 1#2
  · by_cases hzero : pollZeroField w = 0#30
    · exact .inr (.inl ⟨eq_pollWord_of_fields hpoll hzero, by simp [decodeCommand, hpoll, hzero]⟩)
    · exact .inr (.inr (.inr ⟨.inr (.inr (.inl ⟨hpoll, hzero⟩)), .nonZeroField,
        by simp [decodeCommand, hpoll, hzero]⟩))
  by_cases hgen : kindField w = 2#2
  · by_cases hzero : genZeroField w = 0#12
    · exact .inr (.inr (.inl ⟨_, _, eq_requestWord_of_fields hgen hzero, by simp [decodeCommand, hgen, hzero]⟩))
    · exact .inr (.inr (.inr ⟨.inr (.inr (.inr ⟨hgen, hzero⟩)), .nonZeroField,
        by simp [decodeCommand, hgen, hzero]⟩))
  · have hkind : kindField w = 3#2 := by bv_omega
    exact .inr (.inr (.inr ⟨.inl hkind, .reservedKind, by simp [decodeCommand, hwrite, hpoll, hgen]⟩))

section WaveAddresses

variable (j : BitVec 4)

theorem waveAddr_high : (0xFF3#12 ++ j).extractLsb' 4 12 = 0xFF3#12 := by
  have hj := j.isLt
  apply BitVec.eq_of_toNat_eq
  rw [extract_toNat, append_toNat, BitVec.toNat_ofNat]
  omega

theorem waveAddr_low : (0xFF3#12 ++ j).extractLsb' 0 4 = j := by
  have hj := j.isLt
  apply BitVec.eq_of_toNat_eq
  rw [extract_toNat, append_toNat, BitVec.toNat_ofNat]
  omega

theorem waveAddr_ne {a : Addr} (ha : a.extractLsb' 4 12 ≠ 0xFF3#12) : 0xFF3#12 ++ j ≠ a :=
  fun h => ha (h ▸ waveAddr_high j)

/-- An address of the wave table is none of the named ones, so it selects the row of the table (R115, R120). -/
theorem decodeWrite_waveAddr (d : Byte) : decodeWrite (0xFF3#12 ++ j) d = .wrWave j d := by
  unfold decodeWrite
  iterate 15 rw [if_neg (waveAddr_ne j (by decide))]
  rw [if_pos (waveAddr_high j), waveAddr_low]

end WaveAddresses

/-- An address of the wave table is the table's high twelve bits and an index (R40). -/
theorem eq_waveAddr_of_isWave {a : Addr} (h : Reg.isWave a = true) : a = 0xFF3#12 ++ a.extractLsb' 0 4 := by
  have ha := a.isLt
  have h := congrArg BitVec.toNat (eq_of_beq h)
  rw [extract_toNat, BitVec.toNat_ofNat] at h
  apply BitVec.eq_of_toNat_eq
  rw [append_toNat, extract_toNat, BitVec.toNat_ofNat]
  omega

/-- An address outside the map of R40 selects the last row. -/
theorem decodeWrite_unmapped {a : Addr} (h : Reg.isMapped a = false) (d : Byte) : decodeWrite a d = .wrOther a d := by
  obtain ⟨hnamed, hwave⟩ := Bool.or_eq_false_iff.mp h
  have hwave : a.extractLsb' 4 12 ≠ 0xFF3#12 := ne_of_beq_false hwave
  simp only [Reg.named, List.contains_eq_mem, decide_eq_false_iff_not, List.mem_cons, List.not_mem_nil, or_false,
    not_or] at hnamed
  simp only [decodeWrite, hnamed, hwave, if_false]

/-- The row an address selects is well formed and encodes to the `WR` of that very address. -/
theorem encode_decodeWrite (a : Addr) (d : Byte) :
    WellFormed (decodeWrite a d) ∧ encode (decodeWrite a d) = .command (writeWord a d) := by
  cases hmapped : Reg.isMapped a with
  | false => rw [decodeWrite_unmapped hmapped]; exact ⟨congrArg (!·) hmapped, rfl⟩
  | true =>
    obtain hnamed | hwave := Bool.or_eq_true_iff.mp hmapped
    · have hnamed : a ∈ Reg.named := List.contains_iff_mem.mp hnamed
      fin_cases hnamed <;> exact ⟨rfl, rfl⟩
    · rw [eq_waveAddr_of_isWave hwave, decodeWrite_waveAddr]
      exact ⟨rfl, rfl⟩

/-- The row a channel selector picks is well formed and encodes to the `GEN` of that very selector (R94). -/
theorem encode_decodeRequest (ch : BitVec 2) (n : BitVec 16) :
    WellFormed (decodeRequest ch n) ∧ encode (decodeRequest ch n) = .command (requestWord ch n) :=
  match ch with
  | 0#2 | 1#2 | 2#2 | 3#2 => ⟨rfl, rfl⟩

/-- Settles O1: a `WR` word and a `GEN` word decode to the row their field selects, and that row is the operation they
were encoded from; the other words are fixed. -/
theorem decodeInvertsEncode : Obligations.DecodeInvertsEncode := by
  intro i hi
  cases i
  case wrWave j d => exact (decodeCommand_writeWord _ d).trans (congrArg _ (decodeWrite_waveAddr j d))
  case wrOther a d =>
    have hunmapped : Reg.isMapped a = false := by
      simpa only [WellFormed, Instr.wellFormed, Bool.not_eq_true'] using hi
    exact (decodeCommand_writeWord a d).trans (congrArg _ (decodeWrite_unmapped hunmapped d))
  case poll | live1Sweep | live1Duty | live1Env | live1Flo | trig1 | trig2 | trig3 | noroute => rfl
  case gen n | gen1 n | gen2 n | gen3 n => exact decodeCommand_requestWord _ n
  all_goals exact decodeCommand_writeWord _ _

/-- Settles O2: of the words that decode, each is the encoding of the fields its row is selected by. -/
theorem commandWordHasOneMeaning : Obligations.CommandWordHasOneMeaning := by
  intro w i h
  obtain ⟨a, d, rfl, h'⟩ | ⟨rfl, h'⟩ | ⟨ch, n, rfl, h'⟩ | ⟨-, why, h'⟩ := decodeCommand_cases w <;>
    cases h'.symm.trans h
  · exact encode_decodeWrite a d
  · exact ⟨rfl, rfl⟩
  · exact encode_decodeRequest ch n

/-- Under a mask that is zero on the low `k` bits a word is its own quotient. -/
theorem and_allOnes_shiftLeft_toNat (k : Nat) (w : CommandWord) :
    (w &&& (BitVec.allOnes 32 <<< k)).toNat = w.toNat / 2 ^ k * 2 ^ k := by
  have hw := w.isLt
  have hmask : w &&& (BitVec.allOnes 32 <<< k) = (w >>> k) <<< k := by
    ext i hi
    by_cases hk : i < k
    · simp [hk]
    · simp only [BitVec.getElem_and, BitVec.getElem_shiftLeft, hk, decide_false, Bool.not_false, Bool.true_and,
        BitVec.getElem_allOnes, Bool.and_true, BitVec.getElem_ushiftRight, Nat.add_sub_cancel' (Nat.le_of_not_lt hk)]
      rfl
  rw [hmask, BitVec.toNat_shiftLeft, BitVec.toNat_ushiftRight, Nat.shiftLeft_eq, Nat.shiftRight_eq_div_pow]
  exact Nat.mod_eq_of_lt ((Nat.div_mul_le_self _ _).trans_lt hw)

/-- A row of format W with a one-byte data field matches the words of its address only. -/
theorem writeWord_matches {a b : Addr} {d : Byte} {p : CommandWord} (hp : p = writeWord b 0#8) :
    writeWord a d &&& 0xFFFFFF00#32 = p ↔ a = b := by
  have hmask : 0xFFFFFF00#32 = BitVec.allOnes 32 <<< 8 := by decide
  have hd := d.isLt
  rw [← BitVec.toNat_inj, hmask, and_allOnes_shiftLeft_toNat, hp, writeWord_toNat, writeWord_toNat, ← BitVec.toNat_inj,
    BitVec.toNat_ofNat]
  omega

/-- The row of the wave table matches the words of the table's sixteen addresses. -/
theorem writeWord_matches_wave (a : Addr) (d : Byte) :
    writeWord a d &&& 0xFFFFF000#32 = 0x00FF3000#32 ↔ a.extractLsb' 4 12 = 0xFF3#12 := by
  have hmask : 0xFFFFF000#32 = BitVec.allOnes 32 <<< 12 := by decide
  have ha := a.isLt
  have hd := d.isLt
  rw [← BitVec.toNat_inj, hmask, and_allOnes_shiftLeft_toNat, writeWord_toNat, ← BitVec.toNat_inj, extract_toNat,
    BitVec.toNat_ofNat, BitVec.toNat_ofNat]
  omega

/-- The last row of format W matches every word of the format. -/
theorem writeWord_matches_other (a : Addr) (d : Byte) : writeWord a d &&& 0xFF000000#32 = 0x00000000#32 := by
  have hmask : 0xFF000000#32 = BitVec.allOnes 32 <<< 24 := by decide
  have ha := a.isLt
  have hd := d.isLt
  apply BitVec.eq_of_toNat_eq
  rw [hmask, and_allOnes_shiftLeft_toNat, writeWord_toNat, BitVec.toNat_ofNat]
  omega

/-- A row of format G matches the words of its channel selector only. -/
theorem requestWord_matches {ch b : BitVec 2} {n : BitVec 16} {p : CommandWord} (hp : p = requestWord b 0#16) :
    requestWord ch n &&& 0xFFFF0000#32 = p ↔ ch = b := by
  have hmask : 0xFFFF0000#32 = BitVec.allOnes 32 <<< 16 := by decide
  have hn := n.isLt
  rw [← BitVec.toNat_inj, hmask, and_allOnes_shiftLeft_toNat, hp, requestWord_toNat, requestWord_toNat,
    ← BitVec.toNat_inj, BitVec.toNat_ofNat]
  omega

section Table

variable {width : Nat} {rows : List (TableRow width)} {name : String} {p m w : BitVec width}

/-- The table's matching rule, row by row (R120). -/
theorem firstRow_cons (rows : List (TableRow width)) (name : String) (p m w : BitVec width) :
    firstRow (⟨name, p, m⟩ :: rows) w = if w &&& m = p then some name else firstRow rows w := by
  by_cases h : w &&& m = p <;> simp [firstRow, h]

/-- One row of a table against one test of a decoder: both choose on the same condition. -/
theorem firstRow_eq_ite {c : Prop} [Decidable c] {i j : Instr} (hmatch : w &&& m = p ↔ c) (hname : name = i.mnemonic)
    (hrest : ¬ c → firstRow rows w = some j.mnemonic) :
    firstRow (⟨name, p, m⟩ :: rows) w = some (if c then i else j).mnemonic := by
  rw [firstRow_cons, apply_ite Instr.mnemonic, apply_ite some, hname]
  exact ite_congr (propext hmatch) (fun _ => rfl) hrest

end Table

/-- Rows that all ask for other high bits than the word's are passed over. -/
theorem firstRow_skip {rows rest : List (TableRow 32)} {w : CommandWord} (k v : Nat)
    (hrows : ∀ r ∈ rows, r.mask &&& (BitVec.allOnes 32 <<< k) = BitVec.allOnes 32 <<< k ∧ r.pattern.toNat / 2 ^ k = v)
    (hw : w.toNat / 2 ^ k ≠ v) : firstRow (rows ++ rest) w = firstRow rest w := by
  have hnone : (rows.find? fun r => w &&& r.mask == r.pattern) = none := by
    refine List.find?_eq_none.mpr fun r hr hmatch => hw ?_
    obtain ⟨hmask, hpattern⟩ := hrows r hr
    have hhigh : w &&& (BitVec.allOnes 32 <<< k) = r.pattern &&& (BitVec.allOnes 32 <<< k) := by
      rw [← eq_of_beq hmatch, BitVec.and_assoc, hmask]
    have hhigh := congrArg BitVec.toNat hhigh
    rw [and_allOnes_shiftLeft_toNat, and_allOnes_shiftLeft_toNat, hpattern] at hhigh
    exact Nat.eq_of_mul_eq_mul_right (Nat.two_pow_pos k) hhigh
  rw [firstRow, List.find?_append, hnone, Option.none_or, firstRow]

/-- The table's answer for a `WR`: its rows are the decoder's tests, in the same order. -/
theorem firstRow_writeWord (a : Addr) (d : Byte) :
    firstRow commandTable (writeWord a d) = some (decodeWrite a d).mnemonic := by
  unfold commandTable decodeWrite
  iterate 15 refine firstRow_eq_ite (writeWord_matches (by decide)) rfl fun _ => ?_
  refine firstRow_eq_ite (writeWord_matches_wave a d) rfl fun _ => ?_
  rw [firstRow_cons, if_pos (writeWord_matches_other a d)]
  rfl

/-- The table's answer for a `GEN`: the rows of the other formats ask for another kind. -/
theorem firstRow_requestWord (ch : BitVec 2) (n : BitVec 16) :
    firstRow commandTable (requestWord ch n) = some (decodeRequest ch n).mnemonic := by
  have hkind : (requestWord ch n).toNat / 2 ^ 30 = 2 := by
    have hch := ch.isLt
    have hn := n.isLt
    rw [requestWord_toNat]
    omega
  rw [← List.take_append_drop 17 commandTable, firstRow_skip 30 0 (by decide) (by omega),
    ← List.take_append_drop 1 (commandTable.drop 17), firstRow_skip 30 1 (by decide) (by omega)]
  unfold decodeRequest
  refine firstRow_eq_ite (requestWord_matches (by decide)) rfl fun h0 => ?_
  refine firstRow_eq_ite (requestWord_matches (by decide)) rfl fun h1 => ?_
  refine firstRow_eq_ite (requestWord_matches (by decide)) rfl fun h2 => ?_
  have hlast : ch = 3#2 := by bv_omega
  exact (firstRow_cons ..).trans (if_pos ((requestWord_matches (by decide)).mpr hlast))

/-- A reserved word has the fixed high bits of none of the three formats (R92 to R95). -/
theorem reserved_toNat {w : CommandWord} (h : Reserved w) :
    w.toNat / 2 ^ 24 ≠ 0 ∧ w.toNat / 2 ^ 0 ≠ 2 ^ 30 ∧ w.toNat / 2 ^ 18 ≠ 2 ^ 13 := by
  have hfields : kindField w = 3#2 ∨ (kindField w = 0#2 ∧ writeZeroField w ≠ 0#6) ∨
      (kindField w = 1#2 ∧ pollZeroField w ≠ 0#30) ∨ (kindField w = 2#2 ∧ genZeroField w ≠ 0#12) := h
  simp only [ne_eq, ← BitVec.toNat_inj, kindField_toNat, writeZeroField_toNat, pollZeroField_toNat, genZeroField_toNat,
    BitVec.toNat_ofNat] at hfields
  omega

/-- No row matches a reserved word (R95). -/
theorem firstRow_reserved {w : CommandWord} (h : Reserved w) : firstRow commandTable w = none := by
  obtain ⟨hwrite, hpoll, hgen⟩ := reserved_toNat h
  rw [← List.take_append_drop 17 commandTable, firstRow_skip 24 0 (by decide) hwrite,
    ← List.take_append_drop 1 (commandTable.drop 17), firstRow_skip 0 (2 ^ 30) (by decide) hpoll,
    ← List.append_nil ((commandTable.drop 17).drop 1), firstRow_skip 18 (2 ^ 13) (by decide) hgen]
  rfl

/-- Settles O3: the two decoders and their tables test the same conditions in the same order, and no row matches what
the decoder rejects. -/
theorem decodersFollowOpcodeTable : Obligations.DecodersFollowOpcodeTable := by
  refine ⟨fun w => ?_, fun a => ?_⟩
  · obtain ⟨a, d, rfl, h⟩ | ⟨rfl, h⟩ | ⟨ch, n, rfl, h⟩ | ⟨hreserved, why, h⟩ := decodeCommand_cases w <;> rw [h]
    · exact firstRow_writeWord a d
    · decide
    · exact firstRow_requestWord ch n
    · exact firstRow_reserved hreserved
  · have hmask {p : Addr} : a &&& 0xFFFF#16 = p ↔ a = p := by
      rw [show 0xFFFF#16 = BitVec.allOnes 16 from rfl, BitVec.and_allOnes]
    unfold dispatchTable decodeDispatch
    iterate 7 refine firstRow_eq_ite hmask rfl fun _ => ?_
    rw [firstRow_cons, if_pos BitVec.and_zero]
    rfl

/-- Settles O4: the eleven words are evaluated. -/
theorem writtenOutWordsDecode : Obligations.WrittenOutWordsDecode := by
  unfold Obligations.WrittenOutWordsDecode
  decide

end Sys2Proof
end

section
/-! What every operation and every step keeps: the store outside `WR`, channel 4, the waiting commands, and the streams
but for what a request appends (R36, R47, R72, R250). -/

namespace Sys2Proof.Machine

open Sys2Proof.Claims

/-- A property that the channels' operations, the writes and the slot keep, every operation keeps, `POLL` included. -/
theorem KeptByChannelOps.of_every_exec {P : State → Prop} (hP : KeptByChannelOps P)
    (hwrite : ∀ s a d, P s → P ((s.memWrite a d).signal a)) (hconsume : ∀ s, P s → P s.consume) {i : Instr}
    {s t : State} (hs : P s) (h : exec i s = .next t) : P t := by
  by_cases hp : i = .poll
  · subst hp
    obtain ⟨-, h'⟩ | ⟨-, h'⟩ := execPoll_cases s
    · exact hP.of_exec (decodeDispatch_kind _).1 (decodeDispatch_ne_poll _) (hconsume s hs) (h'.symm.trans h)
    · cases h'.symm.trans h
      exact hs
  · cases hw : i.isWrite with
    | false => exact hP.of_exec hw hp hs h
    | true =>
      obtain ⟨a, d, hi⟩ := exec_isWrite hw
      cases (hi s).symm.trans h
      exact hwrite s a d hs

section Frame

variable (s : State) (c : Fin 3) (r : ChannelState) (vs : List Sample) (a : Addr)

@[simp] theorem withChan_st3 : (withChan s c r).st3 = s.st3 :=
  match c with
  | 0 | 1 | 2 => rfl

@[simp] theorem withChan_store : (withChan s c r).store = s.store :=
  match c with
  | 0 | 1 | 2 => rfl

@[simp] theorem withChan_commands : (withChan s c r).commands = s.commands :=
  match c with
  | 0 | 1 | 2 => rfl

@[simp] theorem withChan_out1 : (withChan s c r).out1 = s.out1 :=
  match c with
  | 0 | 1 | 2 => rfl

@[simp] theorem withChan_out2 : (withChan s c r).out2 = s.out2 :=
  match c with
  | 0 | 1 | 2 => rfl

@[simp] theorem withChan_out3 : (withChan s c r).out3 = s.out3 :=
  match c with
  | 0 | 1 | 2 => rfl

@[simp] theorem withEmitted_st3 : (withEmitted s c vs).st3 = s.st3 :=
  match c with
  | 0 | 1 | 2 => rfl

@[simp] theorem withEmitted_store : (withEmitted s c vs).store = s.store :=
  match c with
  | 0 | 1 | 2 => rfl

@[simp] theorem withEmitted_commands : (withEmitted s c vs).commands = s.commands :=
  match c with
  | 0 | 1 | 2 => rfl

@[simp] theorem withChan_memRead : (withChan s c r).memRead a = s.memRead a := by
  rw [State.memRead, withChan_store, State.memRead]

@[simp] theorem withEmitted_memRead : (withEmitted s c vs).memRead a = s.memRead a := by
  rw [State.memRead, withEmitted_store, State.memRead]

end Frame

/-- Requests and handlers write records and streams only, so they keep the value of everything else. -/
theorem keptByChannelOps_of_frame {α : Type} {f : State → α} (hchan : ∀ s c r, f (withChan s c r) = f s)
    (hemit : ∀ s c vs, f (withEmitted s c vs) = f s) (v : α) : KeptByChannelOps fun s => f s = v where
  gen1 _ s h := (hemit _ 0 _).trans ((hchan s 0 _).trans h)
  gen2 _ s h := (hemit _ 1 _).trans ((hchan s 1 _).trans h)
  gen3 _ s h := (hemit _ 2 _).trans ((hchan s 2 _).trans h)
  trig1 _ _ _ _ _ s h := (hchan s 0 _).trans h
  trig2 _ _ _ _ s h := (hchan s 1 _).trans h
  trig3 s h := (hchan s 2 _).trans h
  liveEnv _ s h := (hchan s 0 _).trans h
  liveFlo _ s h := (hchan s 0 _).trans h

/-- The waiting commands are the step's alone: no operation changes them. -/
theorem exec_commands {i : Instr} {s t : State} (h : exec i s = .next t) : t.commands = s.commands :=
  (keptByChannelOps_of_frame (f := State.commands) withChan_commands withEmitted_commands s.commands).of_every_exec
    (fun _ _ _ h => h) (fun _ h => h) rfl h

/-- `WR` is the only writer of the store (R61). -/
theorem exec_store {i : Instr} {s t : State} (hw : i.isWrite = false) (h : exec i s = .next t) : t.store = s.store := by
  have hkept := keptByChannelOps_of_frame (f := State.store) withChan_store withEmitted_store s.store
  by_cases hp : i = .poll
  · subst hp
    obtain ⟨-, h'⟩ | ⟨-, h'⟩ := execPoll_cases s
    · exact hkept.of_exec (s := s.consume) (decodeDispatch_kind _).1 (decodeDispatch_ne_poll _) rfl (h'.symm.trans h)
    · cases h'.symm.trans h
      rfl
  · exact hkept.of_exec hw hp rfl h

/-- Settles O50: no operation writes record 3. -/
theorem channel4NeverChanges : Obligations.Channel4NeverChanges := fun s _ h =>
  (keptByChannelOps_of_frame withChan_st3 withEmitted_st3 s.st3).of_step (fun _ _ _ h => h) (fun _ h => h)
    (fun _ _ h => h) rfl h

/-- A request appends to its stream and the handlers emit nothing, so what has been emitted stays in front. -/
theorem streams_keptByChannelOps (v1 v2 v3 : List Sample) :
    KeptByChannelOps fun s => v1 <+: s.out1 ∧ v2 <+: s.out2 ∧ v3 <+: s.out3 where
  gen1 _ _ h := ⟨h.1.trans (List.prefix_append _ _), h.2⟩
  gen2 _ _ h := ⟨h.1, h.2.1.trans (List.prefix_append _ _), h.2.2⟩
  gen3 _ _ h := ⟨h.1, h.2.1, h.2.2.trans (List.prefix_append _ _)⟩
  trig1 _ _ _ _ _ _ h := h
  trig2 _ _ _ _ _ h := h
  trig3 _ h := h
  liveEnv _ _ h := h
  liveFlo _ _ h := h

/-- Settles O53: every operation leaves what has been emitted at the front of its stream. -/
theorem streamsOnlyGrow : Obligations.StreamsOnlyGrow := fun s _ h =>
  (streams_keptByChannelOps s.out1 s.out2 s.out3).of_step (fun _ _ _ h => h) (fun _ h => h) (fun _ _ h => h)
    ⟨List.prefix_rfl, List.prefix_rfl, List.prefix_rfl⟩ h

/-- Everything a handler can do to the state: nothing, a live update of record 0, or a trigger that fires (R152, R172,
R173). -/
theorem exec_handler_cases {i : Instr} {s t : State} (hissuer : i.issuer = none) (h : exec i s = .next t) :
    t = s ∨ (∃ r, (i = .live1Env ∨ i = .live1Flo) ∧ r.playing = s.st0.playing ∧ t = s.setCh1 r) ∨
      ∃ c r, i = trigOf c ∧ Fires s c ∧ r.playing = true ∧ t = withChan s c r := by
  cases i
  case live1Env =>
    obtain ⟨-, -, h'⟩ | ⟨-, h'⟩ := execLive1Env_cases s <;> cases h'.symm.trans h
    · exact .inr (.inl ⟨latchEnvelope (s.memRead Reg.ch1Env) s.st0, .inl rfl, rfl, rfl⟩)
    · exact .inl rfl
  case live1Flo =>
    obtain ⟨-, h'⟩ | ⟨-, h'⟩ := execLive1Flo_cases s <;> cases h'.symm.trans h
    · exact .inr (.inl ⟨replaceFlo (s.memRead Reg.ch1Flo) s.st0, .inr rfl, rfl, rfl⟩)
    · exact .inl rfl
  case trig1 =>
    obtain ⟨hf, h'⟩ | ⟨-, h'⟩ := execTrig1_cases s <;> cases h'.symm.trans h
    · exact .inr (.inr ⟨0, _, rfl, (fires_eq_true_iff s 0).mp hf, rfl, rfl⟩)
    · exact .inl rfl
  case trig2 =>
    obtain ⟨hf, h'⟩ | ⟨-, h'⟩ := execTrig2_cases s <;> cases h'.symm.trans h
    · exact .inr (.inr ⟨1, _, rfl, (fires_eq_true_iff s 1).mp hf, rfl, rfl⟩)
    · exact .inl rfl
  case trig3 =>
    obtain ⟨hf, h'⟩ | ⟨-, h'⟩ := execTrig3_cases s <;> cases h'.symm.trans h
    · exact .inr (.inr ⟨2, _, rfl, (fires_eq_true_iff s 2).mp hf, rfl, rfl⟩)
    · exact .inl rfl
  case live1Sweep | live1Duty | noroute => cases h; exact .inl rfl
  all_goals cases hissuer

/-- A handler emits nothing (R250). -/
theorem exec_handler_streams {i : Instr} {s t : State} (hissuer : i.issuer = none) (h : exec i s = .next t) :
    t.out1 = s.out1 ∧ t.out2 = s.out2 ∧ t.out3 = s.out3 := by
  obtain rfl | ⟨r, -, -, rfl⟩ | ⟨c, r, -, -, -, rfl⟩ := exec_handler_cases hissuer h
  · exact ⟨rfl, rfl, rfl⟩
  · exact ⟨rfl, rfl, rfl⟩
  · exact ⟨withChan_out1 s c r, withChan_out2 s c r, withChan_out3 s c r⟩

/-- A `POLL` emits nothing: its handler does not. -/
theorem exec_poll_streams {s t : State} (h : exec .poll s = .next t) :
    t.out1 = s.out1 ∧ t.out2 = s.out2 ∧ t.out3 = s.out3 := by
  obtain ⟨-, h'⟩ | ⟨-, h'⟩ := execPoll_cases s
  · exact exec_handler_streams (s := s.consume) (decodeDispatch_kind _).2 (h'.symm.trans h)
  · cases h'.symm.trans h
    exact ⟨rfl, rfl, rfl⟩

/-- An operation is a write or the poll of the host, a request of the audio backend, or a handler (R6, R250). -/
theorem instr_cases (i : Instr) :
    (i.isWrite = true ∧ i.issuer = some .host) ∨ i = .poll ∨
      (i.isWrite = false ∧ i ≠ .poll ∧ i.issuer = some .backend) ∨ (i.isWrite = false ∧ i.issuer = none) := by
  cases i <;> simp [Instr.isWrite, Instr.issuer]

/-- Settles O52: a write reaches the store and the slot, the handlers (also through `POLL`) records only, and the
requests neither the slot nor the store. -/
theorem agentsKeepToTheirState : Obligations.AgentsKeepToTheirState := by
  intro i s t h
  obtain ⟨hw, hissuer⟩ | rfl | ⟨hw, hp, hissuer⟩ | ⟨hw, hissuer⟩ := instr_cases i
  · obtain ⟨a, d, hi⟩ := exec_isWrite hw
    cases (hi s).symm.trans h
    exact ⟨fun _ => ⟨rfl, rfl, rfl, rfl⟩, fun _ => ⟨rfl, rfl, rfl⟩, fun hbackend => nomatch hissuer.symm.trans hbackend⟩
  · exact ⟨nofun, fun _ => exec_poll_streams h, nofun⟩
  · obtain ⟨hpend, haddr⟩ := exec_slot hw hp h
    exact ⟨fun hwrite => absurd (hw.symm.trans hwrite) nofun, fun hne => absurd hissuer hne,
      fun _ => ⟨hpend, haddr, exec_store hw h⟩⟩
  · exact ⟨fun hwrite => absurd (hw.symm.trans hwrite) nofun, fun _ => exec_handler_streams hissuer h,
      fun hbackend => nomatch hissuer.symm.trans hbackend⟩

end Sys2Proof.Machine
end

section
/-! The invariant of the records (R43, R24, R30, R34, R37): what each part of a slot and each trigger keeps, and the
step invariant assembled from it. -/

namespace Sys2Proof.Machine

open Sys2Proof.Claims

/-- What every slot keeps if its waveform part does and turning off does. -/
theorem outputSlot_keeps {P : ChannelState → Prop} {cfg : Config} {wave : ChannelState → ChannelState × Sample}
    (hoff : ∀ r, P r → P (turnOff r))
    (hwave : ∀ r, r.playing = true → P r → P (countDown (wave (reloadLength cfg r)).1)) (r : ChannelState) (hr : P r) :
    P (outputSlot cfg wave r).1 := by
  obtain ⟨-, h⟩ | ⟨-, -, h⟩ | ⟨hplaying, -, h⟩ := outputSlot_cases cfg wave r <;> rw [h]
  · exact hr
  · exact hoff r hr
  · exact hwave r hplaying hr

section Bounds

variable {r : ChannelState}

theorem LengthBounded.reloadLength (h : LengthBounded r) : LengthBounded (reloadLength psg r) := by
  rw [LengthBounded, psg_sr] at h
  rw [LengthBounded, psg_sr, reloadLength_sampleLength, psg_indefinite_samples]
  split <;> omega

theorem LengthBounded.countDown (h : LengthBounded r) : LengthBounded (countDown r) := (Nat.sub_le _ _).trans h

/-- A counter that has just been restarted is below every threshold (R30). -/
theorem envelopeBounded_of_zero (h : r.envelopeCounter = 0) : EnvelopeBounded r := by
  refine ⟨by rw [h, psg_sr]; decide, fun hstep => ?_⟩
  have hstep : r.envelopeStep.toNat ≠ 0 := fun hz => hstep (BitVec.eq_of_toNat_eq hz)
  rw [h, psg_sr]
  omega

/-- A counter that has just been restarted is below every threshold (R34). -/
theorem sweepBounded_of_zero (h : r.sweepCounter = 0) : SweepBounded r := by
  refine ⟨by rw [h, psg_sr]; decide, fun htime => ?_⟩
  have htime : r.sweepTime.toNat ≠ 0 := fun hz => htime (BitVec.eq_of_toNat_eq hz)
  rw [h, psg_sr]
  omega

/-- The envelope's counter stays below its threshold: it counts only while the event is not due (R189). -/
theorem EnvelopeBounded.envelopeTick (h : EnvelopeBounded r) : EnvelopeBounded (envelopeTick psg r) := by
  obtain ⟨-, ht⟩ | ⟨-, hdue, ht⟩ | ⟨-, -, ht⟩ := envelopeTick_cases psg r <;> rw [ht]
  · exact h
  · have hlt : (r.envelopeCounter + 1) * 64 < psg.sr * r.envelopeStep.toNat :=
      Nat.lt_of_not_le (mt (envelopeDue_iff psg r).mpr (Bool.eq_false_iff.mp hdue))
    exact ⟨hlt.trans_le (Nat.mul_le_mul_left _ (Nat.le_of_lt_succ r.envelopeStep.isLt)), fun _ => hlt⟩
  · exact envelopeBounded_of_zero rfl

/-- The sweep's counter stays below its threshold: it counts only while the event is not due (R187). -/
theorem SweepBounded.sweepTick (h : SweepBounded r) : SweepBounded (sweepTick psg r) := by
  obtain ⟨-, ht⟩ | ⟨-, hdue, ht⟩ | ⟨-, -, -, -, ht⟩ | ⟨-, -, -, -, ht⟩ | ⟨-, -, -, ht⟩ := sweepTick_cases psg r <;>
    rw [ht]
  · exact h
  · have hlt : (r.sweepCounter + 1) * 128 < psg.sr * r.sweepTime.toNat :=
      Nat.lt_of_not_le (mt (sweepDue_iff psg r).mpr (Bool.eq_false_iff.mp hdue))
    exact ⟨hlt.trans_le (Nat.mul_le_mul_left _ (Nat.le_of_lt_succ r.sweepTime.isLt)), fun _ => hlt⟩
  all_goals exact sweepBounded_of_zero rfl

end Bounds

/-- The phase after the advance is below the period (R43(f), R185, R225). -/
theorem phaseAdvance_phaseInPeriod (scale : Nat) (r : ChannelState) :
    PhaseInPeriod scale (phaseAdvance psg scale r) := by
  have hpos := periodCode_pos r
  rw [PhaseInPeriod, phaseAdvance_periodCode, psg_sr]
  obtain ⟨-, hphase⟩ | ⟨hlt, hphase⟩ := phaseAdvance_freqDist_cases psg r scale <;> rw [hphase]
  · omega
  · exact hlt

/-- No period is longer than that of code 0 (R37(a)). -/
theorem PhaseInPeriod.bounded {scale : Nat} {r : ChannelState} (h : PhaseInPeriod scale r) : PhaseBounded scale r :=
  h.trans_le (Nat.mul_le_mul_left _ (Nat.sub_le _ _))

/-- The invariant of the fields both square channels use (R43, R24, R30). -/
structure SquareInv (r : ChannelState) : Prop where
  duty : DutyLegal r
  duration : r.duration.legal 64 = true
  playing : PlayingHasDuration r
  length : LengthBounded r
  envelope : EnvelopeBounded r

section Square

variable {r : ChannelState}

theorem SquareInv.turnOff (h : SquareInv r) : SquareInv (turnOff r) := { h with playing := nofun }

theorem SquareInv.reloadLength (h : SquareInv r) : SquareInv (reloadLength psg r) :=
  { h with length := h.length.reloadLength }

theorem SquareInv.phaseAdvance (h : SquareInv r) : SquareInv (phaseAdvance psg 131072 r) := { h with }

theorem SquareInv.countDown (h : SquareInv r) : SquareInv (countDown r) := { h with length := h.length.countDown }

theorem SquareInv.envelopeTick (h : SquareInv r) : SquareInv (envelopeTick psg r) := by
  have henvelope := h.envelope.envelopeTick
  obtain ⟨-, ht⟩ | ⟨-, -, ht⟩ | ⟨-, -, ht⟩ := envelopeTick_cases psg r <;> rw [ht] at henvelope ⊢ <;>
    exact { h with envelope := henvelope }

/-- An overflow clears the envelope's step with the channel off; the sweep's other outcomes leave all of it (R188). -/
theorem SquareInv.sweepTick (h : SquareInv r) : SquareInv (sweepTick psg r) := by
  obtain ⟨-, ht⟩ | ⟨-, -, ht⟩ | ⟨-, -, -, -, ht⟩ | ⟨-, -, -, -, ht⟩ | ⟨-, -, -, ht⟩ := sweepTick_cases psg r <;>
    rw [ht]
  case inr.inr.inl =>
    exact { h with playing := nofun, envelope := ⟨h.envelope.1, fun hstep => absurd rfl hstep⟩ }
  all_goals exact { h with }

/-- The four pairs of R154 are legal. -/
theorem dutyPair_legal (sel : BitVec 2) :
    dutyPair sel ∈ ([(0#4, 0#4), (1#4, 2#4), (0#4, 2#4), (0#4, 4#4), (2#4, 8#4)] : List (BitVec 4 × BitVec 4)) := by
  revert sel
  decide

/-- The duration of a square channel's registers is legal, never `zero`, and no longer than the sentinel (R155). -/
theorem squareDuration_legal (duty fhi : Byte) :
    (squareDuration duty fhi).legal 64 = true ∧ squareDuration duty fhi ≠ .zero ∧
      Duration.samples psg (squareDuration duty fhi) ≤ 5 * psg.sr := by
  have hbits := (lengthBits duty).isLt
  unfold squareDuration
  split
  · refine ⟨?_, nofun, ?_⟩
    · simp only [Duration.legal, Bool.and_eq_true, decide_eq_true_eq]
      omega
    · rw [samples_psg, lengthOf, psg_sr]
      omega
  · exact ⟨rfl, nofun, by decide⟩

/-- Whatever a square channel was, a trigger leaves it legal (R153 to R157). -/
theorem latchSquare_inv (duty env flo fhi : Byte) (r : ChannelState) : SquareInv (latchSquare psg duty env flo fhi r) :=
  have ⟨hlegal, hzero, hlength⟩ := squareDuration_legal duty fhi
  { duty := dutyPair_legal _
    duration := hlegal
    playing := fun _ => hzero
    length := hlength
    envelope := envelopeBounded_of_zero rfl }

end Square

/-- The invariant of record 0. -/
structure Channel1Inv (r : ChannelState) : Prop extends SquareInv r where
  sweep : SweepBounded r
  phase : PhaseBounded 131072 r

/-- The invariant of record 1. -/
structure Channel2Inv (r : ChannelState) : Prop extends SquareInv r where
  phase : PhaseInPeriod 131072 r

/-- The invariant of record 2. -/
structure Channel3Inv (r : ChannelState) : Prop where
  shift : ShiftLegal r
  duration : r.duration.legal 256 = true
  length : LengthBounded r
  phase : PhaseBounded 65536 r

/-- The envelope step leaves the sweep, the phase and the code (R191). -/
theorem envelopeTick_keeps_phase_sweep {r : ChannelState} :
    (SweepBounded r → SweepBounded (envelopeTick psg r)) ∧
    (∀ scale, PhaseBounded scale r → PhaseBounded scale (envelopeTick psg r)) ∧
    (∀ scale, PhaseInPeriod scale r → PhaseInPeriod scale (envelopeTick psg r)) := by
  rw [envelopeTick_frame]
  exact ⟨id, fun _ => id, fun _ => id⟩

/-- A slot of channel 1 keeps its invariant: the advance bounds the phase, and the sweep and the envelope leave it. -/
theorem outputSlot_waveSlot1_inv (r : ChannelState) (h : Channel1Inv r) :
    Channel1Inv (outputSlot psg (waveSlot1 psg) r).1 := by
  refine outputSlot_keeps (fun r h => { h with toSquareInv := h.turnOff }) (fun r _ h => ?_) r h
  have hphase := (phaseAdvance_phaseInPeriod 131072 (reloadLength psg r)).bounded
  have hsweep : SweepBounded (phaseAdvance psg 131072 (reloadLength psg r)) := h.sweep
  obtain ⟨hdist, -⟩ := sweepTick_frame psg (phaseAdvance psg 131072 (reloadLength psg r))
  rw [PhaseBounded, ← hdist] at hphase
  obtain ⟨hkeepsSweep, hkeepsPhase, -⟩ := envelopeTick_keeps_phase_sweep
    (r := sweepTick psg (phaseAdvance psg 131072 (reloadLength psg r)))
  exact
    { toSquareInv := h.reloadLength.phaseAdvance.sweepTick.envelopeTick.countDown
      sweep := hkeepsSweep hsweep.sweepTick
      phase := hkeepsPhase _ hphase }

/-- A slot of channel 2 keeps its invariant; without a sweep the phase stays below the period (R43(f)). -/
theorem outputSlot_waveSlot2_inv (r : ChannelState) (h : Channel2Inv r) :
    Channel2Inv (outputSlot psg (waveSlot2 psg) r).1 := by
  refine outputSlot_keeps (fun r h => { h with toSquareInv := h.turnOff }) (fun r _ h => ?_) r h
  obtain ⟨-, -, hkeepsPhase⟩ := envelopeTick_keeps_phase_sweep (r := phaseAdvance psg 131072 (reloadLength psg r))
  exact
    { toSquareInv := h.reloadLength.phaseAdvance.envelopeTick.countDown
      phase := hkeepsPhase _ (phaseAdvance_phaseInPeriod 131072 (reloadLength psg r)) }

/-- A slot of channel 3 keeps its invariant. -/
theorem outputSlot_waveSlot3_inv (table : Nat → Byte) (r : ChannelState) (h : Channel3Inv r) :
    Channel3Inv (outputSlot psg (waveSlot3 psg table) r).1 :=
  outputSlot_keeps (fun _ h => { h with }) (fun r _ h =>
    { h with
      length := h.length.reloadLength.countDown
      phase := (phaseAdvance_phaseInPeriod 65536 (reloadLength psg r)).bounded }) r h

/-- The four shifts of R222 are legal. -/
theorem shiftOf_legal (sel : BitVec 2) : shiftOf sel ∈ ([0#3, 1#3, 2#3, 4#3] : List (BitVec 3)) := by
  revert sel
  decide

/-- The duration of channel 3's registers is legal and no longer than the sentinel (R222). -/
theorem waveDuration_legal (len fhi : Byte) :
    (waveDuration psg len fhi).legal 256 = true ∧ Duration.samples psg (waveDuration psg len fhi) ≤ 5 * psg.sr := by
  have hlen := len.isLt
  rw [samples_psg, waveDuration, ch3Length_psg, psg_sr]
  split
  · refine ⟨?_, ?_⟩
    · simp only [Duration.legal, Bool.and_eq_true, decide_eq_true_eq]
      exact ⟨Nat.sub_pos_of_lt hlen, Nat.sub_le _ _⟩
    · have hk : 2 ^ psg.ch3LenBits - len.toNat ≤ 256 := Nat.sub_le _ _
      rw [lengthOf]
      omega
  · exact ⟨rfl, by decide⟩

/-- A call of `GEN3` starts from a legal record: it re-derives legal values or keeps those it finds (R221, R222). -/
theorem startGen3_inv {s : State} (h : Channel3Inv s.st2) : Channel3Inv (startGen3 s) := by
  unfold startGen3
  split
  · obtain ⟨hlegal, hlength⟩ := waveDuration_legal (s.memRead Reg.ch3Len) (s.memRead Reg.ch3Fhi)
    constructor
    · exact shiftOf_legal _
    · rw [rederive_duration]
      exact hlegal
    · rw [LengthBounded, rederive_sampleLength]
      split
      · exact h.length
      · exact hlength
    · rw [PhaseBounded, rederive_frame]
      exact h.phase
  · exact h

namespace Inv

variable {s : State} {r : ChannelState}

theorem channel1 (h : Inv s) : Channel1Inv s.st0 :=
  ⟨⟨h.duty0, h.duration0, h.playing0, h.length0, h.envelope0⟩, h.sweep0, h.phase0⟩

theorem channel2 (h : Inv s) : Channel2Inv s.st1 :=
  ⟨⟨h.duty1, h.duration1, h.playing1, h.length1, h.envelope1⟩, h.phase1⟩

theorem channel3 (h : Inv s) : Channel3Inv s.st2 := ⟨h.shift2, h.duration2, h.length2, h.phase2⟩

theorem setCh1 (h : Inv s) (hr : Channel1Inv r) : Inv (s.setCh1 r) :=
  { h with
    duty0 := hr.duty, duration0 := hr.duration, playing0 := hr.playing, length0 := hr.length
    envelope0 := hr.envelope, sweep0 := hr.sweep, phase0 := hr.phase }

theorem setCh2 (h : Inv s) (hr : Channel2Inv r) : Inv (s.setCh2 r) :=
  { h with
    duty1 := hr.duty, duration1 := hr.duration, playing1 := hr.playing, length1 := hr.length
    envelope1 := hr.envelope, phase1 := hr.phase }

theorem setCh3 (h : Inv s) (hr : Channel3Inv r) : Inv (s.setCh3 r) :=
  { h with shift2 := hr.shift, duration2 := hr.duration, length2 := hr.length, phase2 := hr.phase }

end Inv

/-- Phase 0 is below every period. -/
theorem phaseInPeriod_of_zero {scale : Nat} {r : ChannelState} (h : r.freqDist = 0) : PhaseInPeriod scale r := by
  have hpos := periodCode_pos r
  rw [PhaseInPeriod, h, psg_sr]
  omega

/-- The requests keep the invariant slot by slot, and the triggers and the live updates write legal values. -/
theorem inv_keptByChannelOps : KeptByChannelOps Inv where
  gen1 n _ h := { h.setCh1 (runSlots_keeps _ outputSlot_waveSlot1_inv n _ h.channel1) with }
  gen2 n _ h := { h.setCh2 (runSlots_keeps _ outputSlot_waveSlot2_inv n _ h.channel2) with }
  gen3 n _ h := { h.setCh3 (runSlots_keeps _ (outputSlot_waveSlot3_inv _) n _ (startGen3_inv h.channel3)) with }
  trig1 _ duty env flo fhi s h :=
    h.setCh1
      { latchSquare_inv duty env flo fhi s.st0 with
        sweep := sweepBounded_of_zero rfl, phase := (phaseInPeriod_of_zero rfl).bounded }
  trig2 duty env flo fhi s h :=
    h.setCh2 { latchSquare_inv duty env flo fhi s.st1 with phase := phaseInPeriod_of_zero rfl }
  trig3 _ h := h.setCh3 { h.channel3 with duration := rfl, phase := (phaseInPeriod_of_zero rfl).bounded }
  liveEnv _ _ h := h.setCh1 { h.channel1 with envelope := envelopeBounded_of_zero rfl }
  liveFlo _ _ h := h.setCh1 { h.channel1 with }

/-- Settles O54: the channels' operations keep the records' invariants, and a write keeps the store's canonical form. -/
theorem stepKeepsInvariant : Obligations.StepKeepsInvariant := fun _ _ hs h =>
  inv_keptByChannelOps.of_step (fun s a d h => { h with store := s.memWrite_wf a d h.store }) (fun _ h => { h with })
    (fun _ _ h => { h with }) hs h

end Sys2Proof.Machine
end

section
/-! The streams hold only values their channel can emit (R193, R228, R242), and the reset state meets the invariants. -/

namespace Sys2Proof.Machine

/-- What holds of the floor and of every sample of a waveform slot holds of every sample of a request. -/
theorem outputSlot_samples {Q : Sample → Prop} {wave : ChannelState → ChannelState × Sample} (hoff : Q (silence psg))
    (hwave : ∀ r, Q (wave r).2) (n : Nat) (r : ChannelState) : ∀ v ∈ (runSlots (outputSlot psg wave) n r).2, Q v := by
  refine runSlots_samples _ (P := fun _ => True) (fun _ _ => trivial) (fun r _ => ?_) n r trivial
  obtain ⟨-, h⟩ | ⟨-, -, h⟩ | ⟨-, -, h⟩ := outputSlot_cases psg wave r <;> rw [h]
  · exact hoff
  · exact hoff
  · exact hwave _

theorem silence_square : SquareSampleLegal (silence psg) := .inl silence_toInt

theorem silence_wave : WaveSampleLegal (silence psg) := ⟨0, by decide, silence_toInt⟩

/-- High, a square channel emits the amplitude of a volume of at least 1; low, the floor (R192, R193). -/
theorem squareSample_legal (r : ChannelState) : SquareSampleLegal (squareSample psg r) := by
  unfold squareSample
  split
  · next hhigh =>
    obtain ⟨-, -, hvolume⟩ := (dutyHigh_iff psg r).mp hhigh
    exact .inr ⟨r.volume.toNat, hvolume, Nat.le_of_lt_succ r.volume.isLt, amplitude_toInt r.volume⟩
  · exact silence_square

/-- A shifted nibble is a nibble (R228). -/
theorem waveSample_legal (shift : BitVec 3) (nib : BitVec 4) : WaveSampleLegal (waveSample psg shift nib) :=
  ⟨nib.toNat >>> shift.toNat, (Nat.shiftRight_le _ _).trans (Nat.le_of_lt_succ nib.isLt), waveSample_toInt shift nib⟩

/-- The requests emit samples of their slots and the other operations emit nothing. -/
theorem streamsLegal_keptByChannelOps : KeptByChannelOps StreamsLegal where
  gen1 n s h :=
    { h with
      stream1 := fun v hv => (List.mem_append.mp hv).elim (h.stream1 v)
        (outputSlot_samples (wave := waveSlot1 psg) silence_square (fun _ => squareSample_legal _) n s.st0 v) }
  gen2 n s h :=
    { h with
      stream2 := fun v hv => (List.mem_append.mp hv).elim (h.stream2 v)
        (outputSlot_samples (wave := waveSlot2 psg) silence_square (fun _ => squareSample_legal _) n s.st1 v) }
  gen3 n s h :=
    { h with
      stream3 := fun v hv => (List.mem_append.mp hv).elim (h.stream3 v)
        (outputSlot_samples silence_wave (fun _ => waveSample_legal _ _) n (startGen3 s) v) }
  trig1 _ _ _ _ _ _ h := { h with }
  trig2 _ _ _ _ _ h := { h with }
  trig3 _ h := { h with }
  liveEnv _ _ h := { h with }
  liveFlo _ _ h := { h with }

/-- Settles O57: every sample is the floor or a waveform slot's, and both are legal for their channel. -/
theorem stepKeepsStreamsLegal : Obligations.StepKeepsStreamsLegal := fun _ _ hs h =>
  streamsLegal_keptByChannelOps.of_step (fun _ _ _ h => { h with }) (fun _ h => { h with }) (fun _ _ h => { h with })
    hs h

/-- At reset every record is off with every field 0 and the store is empty (R46). -/
theorem reset_inv : Inv State.reset := by
  constructor <;> decide

/-- Settles O55: the fields are evaluated, and nothing has been emitted. -/
theorem resetMeetsInvariant : Obligations.ResetMeetsInvariant :=
  ⟨reset_inv, reset_unusedFieldsReset, ⟨nofun, nofun, nofun⟩⟩

end Sys2Proof.Machine
end

section
/-! The step (R91, R95, R240): a decoded command runs, a reserved word is refused, and a program runs to its end. -/

namespace Sys2Proof.Machine

open Sys2Proof.Claims

/-- A step with a command that decodes runs its operation on the state without it. -/
theorem step_decoded {s : State} {w : CommandWord} {rest : List CommandWord} {i : Instr} (hc : s.commands = w :: rest)
    (hi : decodeCommand w = .ok i) : step s = exec i (s.setCommands rest) := by
  simp only [step, hc, hi]

/-- Settles O5: the two branches of the step that answer a next state. -/
theorem stepRunsDecodedCommand : Obligations.StepRunsDecodedCommand :=
  ⟨fun _ _ _ _ hc hi => step_decoded hc hi, fun s hc => by simp only [step, hc]⟩

/-- No encoded `WR` or `GEN`, nor the word of `POLL`, is reserved. -/
theorem not_reserved_of_decodes {w : CommandWord} {i : Instr} (h : decodeCommand w = .ok i) : ¬ Reserved w := by
  intro hreserved
  obtain ⟨hwrite, hpoll, hgen⟩ := reserved_toNat hreserved
  obtain ⟨a, d, rfl, -⟩ | ⟨rfl, -⟩ | ⟨ch, n, rfl, -⟩ | ⟨-, why, h'⟩ := decodeCommand_cases w
  · rw [writeWord_toNat] at hwrite
    omega
  · exact hpoll rfl
  · rw [requestWord_toNat] at hgen
    omega
  · cases h'.symm.trans h

/-- The decoder rejects exactly the words R95 reserves. -/
theorem decodeCommand_reserved (w : CommandWord) :
    (Reserved w ∧ ∃ why, decodeCommand w = .error why) ∨ (¬ Reserved w ∧ ∃ i, decodeCommand w = .ok i) := by
  obtain ⟨_, _, -, h⟩ | ⟨-, h⟩ | ⟨_, _, -, h⟩ | h := decodeCommand_cases w
  case inr.inr.inr => exact .inl h
  all_goals exact .inr ⟨not_reserved_of_decodes h, _, h⟩

/-- Settles O6: a reserved word does not decode and is refused; any other decodes, and its operation is total. -/
theorem stepRefusesExactlyReservedWords : Obligations.StepRefusesExactlyReservedWords := by
  intro s w rest hc
  obtain ⟨hreserved, why, h⟩ | ⟨hother, i, h⟩ := decodeCommand_reserved w
  · exact ⟨fun _ => ⟨why, by simp only [step, hc, h]⟩, fun hother => absurd hreserved hother⟩
  · exact ⟨fun hreserved => absurd hreserved hother, fun _ => step_decoded hc h ▸ exec_total i _⟩

/-- A run of one step more begins with that step. -/
theorem core_run_succ {s t : State} (h : step s = .next t) (k : Nat) : core.run (k + 1) s = core.run k t := by
  have hstep : core.step s = .next t := h
  simp only [Host.Core.run, hstep]

/-- Settles O8, by induction on the waiting commands: a step takes one, and no operation changes the rest. -/
theorem programsRunToTheirEnd : Obligations.ProgramsRunToTheirEnd := by
  intro s hs
  generalize hws : s.commands = ws at hs ⊢
  induction ws generalizing s with
  | nil => exact ⟨s, rfl, hws⟩
  | cons w rest ih =>
    obtain ⟨i, hi⟩ := hs w List.mem_cons_self
    obtain ⟨t, ht⟩ := exec_total i (s.setCommands rest)
    obtain ⟨u, hu, hend⟩ := ih t (exec_commands ht) fun v hv => hs v (List.mem_cons_of_mem w hv)
    exact ⟨u, (core_run_succ ((step_decoded hws hi).trans ht) rest.length).trans hu, hend⟩

/-- The four bytes of a word, most significant first, are the word (log entry 5). -/
theorem append_bytes (w : Nat) :
    BitVec.ofNat 8 (w / 256 / 256 / 256) ++ BitVec.ofNat 8 (w / 256 / 256) ++ BitVec.ofNat 8 (w / 256) ++
      BitVec.ofNat 8 w = BitVec.ofNat 32 w := by
  apply BitVec.eq_of_toNat_eq
  simp only [append_toNat, BitVec.toNat_ofNat]
  omega

/-- A 32-bit table word is read as the command word it is. -/
theorem decodeTableWord_command (w : Nat) : decodeTableWord 32 w = (decodeCommand (BitVec.ofNat 32 w)).toOption :=
  congrArg (fun v => (decodeCommand v).toOption) (append_bytes w)

/-- A 16-bit table word is read as the dispatch address it is. -/
theorem decodeTableWord_dispatch (a : Addr) : decodeTableWord 16 a.toNat = some (decodeDispatch a) := by
  have ha : BitVec.ofNat 8 (a.toNat / 256) ++ BitVec.ofNat 8 a.toNat = a := by
    have ha := a.isLt
    apply BitVec.eq_of_toNat_eq
    simp only [append_toNat, BitVec.toNat_ofNat]
    omega
  exact congrArg (fun b => some (decodeDispatch b)) ha

/-- `POLL` with an update pending runs the handler of its address on the state without the update. -/
theorem exec_poll_of_pending {s : State} (hpend : s.pend = true) :
    exec .poll s = exec (decodeDispatch s.pendAddr) s.consume := by
  obtain ⟨-, h⟩ | ⟨hclear, -⟩ := execPoll_cases s
  · exact h
  · exact Bool.noConfusion (hclear.symm.trans hpend)

/-- Settles O9: the placed word is the next command, and the placed `POLL` decodes the address placed with it. -/
theorem placedWordRunsNext : Obligations.PlacedWordRunsNext := by
  refine ⟨fun s w i h => ?_, fun s a i h => ?_⟩
  · rw [decodeTableWord_command] at h
    have hdecodes : decodeCommand (BitVec.ofNat 32 w) = .ok i := by
      cases hw : decodeCommand (BitVec.ofNat 32 w) <;> rw [hw] at h <;> cases h
      rfl
    exact step_decoded (s := s.placeCommand (BitVec.ofNat 32 w)) rfl hdecodes
  · obtain rfl : decodeDispatch a = i := Option.some.inj ((decodeTableWord_dispatch a).symm.trans h)
    have hplaced : s.withFetchWord 16 a.toNat = s.placeDispatch a := by
      rw [State.withFetchWord, if_pos (by decide), BitVec.ofNat_toNat, BitVec.setWidth_eq]
    rw [hplaced]
    exact (step_decoded (s := s.placeDispatch a) rfl rfl).trans (exec_poll_of_pending rfl)

end Sys2Proof.Machine
end

section
/-! Register writes (R130, R62, R63): what one stores, what a list of them leaves, and the update a second one displaces
(R135). -/

namespace Sys2Proof.Machine

open Sys2Proof.Claims

/-- Every operation that is a register write stores its byte, signals, and changes nothing else. -/
theorem writesRegister_of_eq {i : Instr} {a : Addr} {d : Byte} (h : ∀ s, exec i s = writeRegister a d s) :
    WritesRegister i a d := by
  intro s
  refine ⟨(s.memWrite a d).signal a, h s, ?_, fun b hb => ?_, rfl, rfl, rfl, rfl, rfl, rfl, rfl, rfl, rfl, rfl⟩
  · exact s.memRead_memWrite_self a d
  · exact s.memRead_memWrite_ne d hb

/-- Address `j` of the wave table (R40). -/
theorem waveBase_add_setWidth (j : BitVec 4) : Reg.waveBase + j.setWidth 16 = BitVec.ofNat 16 (0xFF30 + j.toNat) := by
  rw [BitVec.ofNat_add, BitVec.ofNat_toNat]

/-- Settles O10: each `WR` is the register write of its address. -/
theorem registerWritesStoreAndSignal : Obligations.RegisterWritesStoreAndSignal := by
  intro d
  refine ⟨?_, ?_, ?_, ?_, ?_, ?_, ?_, ?_, ?_, ?_, ?_, ?_, ?_, ?_, ?_, fun j => ?_, fun a => ?_⟩
  case refine_16 => exact waveBase_add_setWidth j ▸ writesRegister_of_eq fun _ => rfl
  all_goals exact writesRegister_of_eq fun _ => rfl

/-- A list of writes runs to its end and leaves the active records; a read then gives the last byte written to its
address, or what it gave before. -/
theorem runAll_writes (ws : List (Addr × Byte)) (s : State) : ∃ t, runAll (ws.map fun p => wr p.1 p.2) s = some t ∧
    (∀ a, t.memRead a = ((ws.reverse.find? fun p => p.1 == a).map Prod.snd).getD (s.memRead a)) ∧
    t.st0 = s.st0 ∧ t.st1 = s.st1 ∧ t.st2 = s.st2 := by
  induction ws generalizing s with
  | nil => exact ⟨s, rfl, fun _ => rfl, rfl, rfl, rfl⟩
  | cons p ws ih =>
    obtain ⟨t, ht, hread, hrecords⟩ := ih ((s.memWrite p.1 p.2).signal p.1)
    refine ⟨t, by rw [List.map_cons, runAll, exec_decodeWrite, writeRegister_eq]; exact ht, fun a => ?_, hrecords⟩
    rw [hread, List.reverse_cons, List.find?_append, State.signal_memRead, State.memRead_memWrite]
    cases ws.reverse.find? fun p => p.1 == a with
    | some q => rfl
    | none => by_cases ha : p.1 = a <;> simp [ha, Ne.symm]

/-- Settles O11: reset reads its open byte everywhere. -/
theorem readGivesLastWriteOrInitialByte : Obligations.ReadGivesLastWriteOrInitialByte := by
  intro ws a
  obtain ⟨t, ht, hread, -⟩ := runAll_writes ws .reset
  exact ⟨t, ht, hread a⟩

/-- Settles O17: the slot holds the second address when the `POLL` comes, and the store both bytes. -/
theorem secondWriteDisplacesFirst : Obligations.SecondWriteDisplacesFirst := by
  intro a b d e s
  refine ⟨_, _, exec_decodeWrite a d s, exec_decodeWrite b e _, exec_poll_of_pending rfl, ?_, ?_⟩
  · exact State.memRead_memWrite_self _ b e
  · rw [State.signal_memRead, State.memRead_memWrite, State.signal_memRead, State.memRead_memWrite_self]

/-- Address `j` of the wave table, as the statements write it. -/
def waveAddr (j : Fin 16) : Addr := BitVec.ofNat 16 (0xFF30 + j.val)

theorem waveAddr_injective : Function.Injective waveAddr := by decide

/-- A write to the table is the `WR` of its address. -/
theorem wr_waveAddr (j : Fin 16) (d : Byte) : wr (waveAddr j) d = .wrWave (BitVec.ofNat 4 j.val) d := by
  have haddr : ∀ j : Fin 16, waveAddr j = 0xFF3#12 ++ BitVec.ofNat 4 j.val := by decide
  rw [haddr]
  exact decodeWrite_waveAddr _ d

/-- A list that holds an element finds it by any injective key. -/
theorem find?_key {α β : Type} [DecidableEq β] {f : α → β} (hf : Function.Injective f) {l : List α} {j : α}
    (hj : j ∈ l) : (l.find? fun k => f k == f j) = some j := by
  have hsome : (l.find? fun k => f k == f j).isSome := List.find?_isSome.mpr ⟨j, hj, beq_self_eq_true (f j)⟩
  obtain ⟨k, hk⟩ := Option.isSome_iff_exists.mp hsome
  have hkey : (f k == f j) = true := List.find?_some (p := fun k => f k == f j) hk
  rw [hk, hf (eq_of_beq hkey)]

/-- Settles O60: the sixteen writes go to different addresses, so byte `j` of the table is the one written to it. -/
theorem waveloadFillsTheTable : Obligations.WaveloadFillsTheTable := by
  intro bytes s
  have hwrites : (Pseudo.waveload bytes).expand =
      ((List.finRange 16).map fun j => (waveAddr j, bytes[j])).map fun p => wr p.1 p.2 := by
    rw [Pseudo.expand, List.map_map]
    exact List.map_congr_left fun j _ => (wr_waveAddr j bytes[j]).symm
  obtain ⟨t, ht, hread, hrecords⟩ := runAll_writes ((List.finRange 16).map fun j => (waveAddr j, bytes[j])) s
  have hbyte : ∀ j : Fin 16, t.memRead (waveAddr j) = bytes[j] := by
    intro j
    have hfind := find?_key waveAddr_injective (List.mem_reverse.mpr (List.mem_finRange j))
    rw [hread, ← List.map_reverse, List.find?_map, Function.comp_def, hfind]
    rfl
  refine ⟨t, hwrites ▸ ht, fun j => ⟨hbyte j, ?_, ?_⟩, hrecords⟩ <;>
    rw [waveByte_eq_memRead, show t.memRead (BitVec.ofNat 16 (0xFF30 + j.val)) = bytes[j] from hbyte j]
  · exact nibble_even _ _
  · exact nibble_odd _ _

end Sys2Proof.Machine
end

section
/-! The dispatcher with an update to dispatch (R131, R134, R139). -/

namespace Sys2Proof.Machine

open Sys2Proof.Claims

/-- Settles O12: the consuming case of `POLL`. -/
theorem pollRunsDecodedHandler : Obligations.PollRunsDecodedHandler := fun _ => exec_poll_of_pending

/-- Settles O15: three handlers answer their own state, and every address but the five decodes to one of them. -/
theorem unroutedUpdatesAreOnlyConsumed : Obligations.UnroutedUpdatesAreOnlyConsumed := by
  refine ⟨fun s => ⟨rfl, rfl, rfl⟩, fun s hpend haddr => ?_⟩
  simp only [List.mem_cons, List.not_mem_nil, or_false, not_or] at haddr
  obtain ⟨henv, hflo, hfhi1, hfhi2, hfhi3⟩ := haddr
  rw [exec_poll_of_pending hpend]
  obtain ⟨-, h⟩ | ⟨-, h⟩ | ⟨ha, -⟩ | ⟨ha, -⟩ | ⟨ha, -⟩ | ⟨ha, -⟩ | ⟨ha, -⟩ | ⟨-, h⟩ := decodeDispatch_cases s.pendAddr
  case inr.inr.inl => exact absurd ha henv
  case inr.inr.inr.inl => exact absurd ha hflo
  case inr.inr.inr.inr.inl => exact absurd ha hfhi1
  case inr.inr.inr.inr.inr.inl => exact absurd ha hfhi2
  case inr.inr.inr.inr.inr.inr.inl => exact absurd ha hfhi3
  all_goals rw [h]; rfl

/-- Every sub-operation but `NOROUTE` is decoded from its own address only (R96). -/
theorem encode_decodeDispatch (a : Addr) : encode (decodeDispatch a) = .dispatch a ∨ decodeDispatch a = .noroute := by
  obtain ⟨rfl, h⟩ | ⟨rfl, h⟩ | ⟨rfl, h⟩ | ⟨rfl, h⟩ | ⟨rfl, h⟩ | ⟨rfl, h⟩ | ⟨rfl, h⟩ | ⟨-, h⟩ := decodeDispatch_cases a
  case inr.inr.inr.inr.inr.inr.inr => exact .inr h
  all_goals exact .inl (congrArg encode h)

theorem addr_of_decodeDispatch {a b : Addr} {i : Instr} (h : decodeDispatch a = i) (hi : encode i = .dispatch b)
    (hne : i ≠ .noroute) : a = b := by
  obtain ha | hroute := encode_decodeDispatch a
  · exact CodeWord.dispatch.inj (ha.symm.trans ((congrArg encode h).trans hi))
  · exact absurd (h.symm.trans hroute) hne

/-- The dispatch decode answers a channel's trigger for its frequency-high register only (R96, R131). -/
theorem fhiOf_of_decodeDispatch {a : Addr} {c : Fin 3} (h : decodeDispatch a = trigOf c) : a = fhiOf c :=
  match c with
  | 0 | 1 | 2 => addr_of_decodeDispatch h rfl nofun

/-- Settles O14: consuming writes the flag only, and of the records a handler writes its own. -/
theorem pollConsumesAndFrames : Obligations.PollConsumesAndFrames := by
  intro s hpend
  obtain ⟨t, h, hclear, haddr⟩ := exec_poll_slot s
  obtain ⟨hout1, hout2, hout3⟩ := exec_poll_streams h
  have hhandler := exec_handler_cases (decodeDispatch_kind _).2 ((exec_poll_of_pending hpend).symm.trans h)
  refine ⟨t, h, hclear, haddr, exec_store rfl h, exec_commands h, hout1, hout2, hout3, ?_⟩
  obtain rfl | ⟨r, hlive, -, rfl⟩ | ⟨c, r, htrig, -, -, rfl⟩ := hhandler
  · exact ⟨rfl, fun _ _ _ => rfl, fun _ => rfl, fun _ => rfl⟩
  · refine ⟨rfl, fun henv hflo _ => ?_, fun _ => rfl, fun _ => rfl⟩
    obtain hlive | hlive := hlive
    · exact absurd (addr_of_decodeDispatch hlive rfl nofun) henv
    · exact absurd (addr_of_decodeDispatch hlive rfl nofun) hflo
  · have hfhi := fhiOf_of_decodeDispatch htrig
    match c with
    | 0 => exact ⟨rfl, fun _ _ hne => absurd hfhi hne, fun _ => rfl, fun _ => rfl⟩
    | 1 => exact ⟨rfl, fun _ _ _ => rfl, fun hne => absurd hfhi hne, fun _ => rfl⟩
    | 2 => exact ⟨rfl, fun _ _ _ => rfl, fun _ => rfl, fun hne => absurd hfhi hne⟩

end Sys2Proof.Machine
end

section
/-! The triggers (R152 to R163) and the live update of the frequency (R173): what a firing trigger latches, from the
register bytes as numbers. -/

namespace Sys2Proof.Machine

open Sys2Proof.Claims

section Fields

variable (b duty fhi flo : Byte)

@[simp] theorem lengthBits_toNat : (lengthBits b).toNat = b.toNat % 64 := by
  rw [lengthBits, extract_toNat]
  omega

@[simp] theorem sweepTimeField_toNat : (sweepTimeField b).toNat = b.toNat / 16 % 8 := extract_toNat 4 3 b

@[simp] theorem sweepStepField_toNat : (sweepStepField b).toNat = b.toNat % 8 := by
  rw [sweepStepField, extract_toNat]
  omega

theorem sweepDirectionField_eq_decide : sweepDirectionField b = decide (b.toNat / 8 % 2 = 1) :=
  byte_getLsbD_eq_decide b 3

/-- With the continuous flag clear the note is indefinite (R155). -/
theorem squareDuration_indefinite (h : fhi.toNat / 64 % 2 = 0) : squareDuration duty fhi = .indefinite :=
  if_neg fun hset => (continuousFlag_eq_true_iff fhi).mp hset h

/-- With the continuous flag set the length bits give the note's length (R155). -/
theorem squareDuration_finite (h : fhi.toNat / 64 % 2 = 1) :
    squareDuration duty fhi = .finite (64 - duty.toNat % 64) := by
  rw [squareDuration, if_pos ((continuousFlag_eq_true_iff fhi).mpr (by omega)), lengthBits_toNat]

/-- The low byte of a code replaced (R173). -/
theorem replaceLowByte_toNat (raw : BitVec 11) :
    (replaceLowByte raw flo).toNat = raw.toNat / 256 * 256 + flo.toNat := by
  have hraw := raw.isLt
  rw [replaceLowByte, append_toNat, extract_toNat]
  omega

end Fields

/-- The latch the square channels share is what the statements say of a firing trigger (R153 to R157). -/
theorem latchSquare_latched (s : State) (duty env flo fhi : Addr) (r : ChannelState) :
    SquareLatched s duty env flo fhi
      (latchSquare psg (s.memRead duty) (s.memRead env) (s.memRead flo) (s.memRead fhi) r) := by
  refine ⟨rfl, rfl, latchSquare_rawFrequency_toNat .., fun hclear => ?_, fun hset => ?_, latchSquare_dutyPair ..,
    volumeField_toNat _, envDirectionField_eq_decide _, envStepField_toNat _, rfl⟩
  · have hduration := squareDuration_indefinite (s.memRead duty) (s.memRead fhi) hclear
    exact ⟨hduration, congrArg (Duration.samples psg) hduration⟩
  · have hduration := squareDuration_finite (s.memRead duty) (s.memRead fhi) hset
    exact ⟨hduration, congrArg (Duration.samples psg) hduration⟩

/-- Settles O18: the shared latch, and the sweep latch on top of it. -/
theorem trig1LatchesChannel1 : Obligations.Trig1LatchesChannel1 := fun s hf =>
  ⟨_, exec_trig1_of_fires hf, latchSquare_latched s 0xFF11#16 0xFF12#16 0xFF13#16 0xFF14#16 s.st0,
    sweepTimeField_toNat _, sweepDirectionField_eq_decide _, sweepStepField_toNat _, rfl, rfl⟩

/-- Settles O19: the shared latch alone. -/
theorem trig2LatchesChannel2 : Obligations.Trig2LatchesChannel2 := fun s hf =>
  ⟨_, exec_trig2_of_fires hf, latchSquare_latched s 0xFF16#16 0xFF17#16 0xFF18#16 0xFF19#16 s.st1, rfl, rfl, rfl, rfl,
    rfl⟩

/-- Of the two cases of `TRIG3`, a firing one resets (R162). -/
theorem exec_trig3_of_fires {s : State} (hf : Fires s 2) : exec .trig3 s = .next (s.setCh3 (commonReset s.st2)) := by
  obtain ⟨-, h⟩ | ⟨hoff, -⟩ := execTrig3_cases s
  · exact h
  · exact Bool.noConfusion (hoff.symm.trans ((fires_eq_true_iff s 2).mpr hf))

/-- Settles O20: the firing case of `TRIG3`. -/
theorem trig3OnlyRestartsChannel3 : Obligations.Trig3OnlyRestartsChannel3 := fun _ => exec_trig3_of_fires

/-- Settles O21: of the two cases of each trigger, the firing one needs the conditions. -/
theorem triggerNotFiringHasNoEffect : Obligations.TriggerNotFiringHasNoEffect := by
  intro s c hf
  have hquiet : ¬ fires (s.memRead Reg.outSel) (s.memRead (fhiOf c)) c = true := mt (fires_eq_true_iff s c).mp hf
  match c with
  | 0 => exact (execTrig1_cases s).elim (fun h => absurd h.1 hquiet) And.right
  | 1 => exact (execTrig2_cases s).elim (fun h => absurd h.1 hquiet) And.right
  | 2 => exact (execTrig3_cases s).elim (fun h => absurd h.1 hquiet) And.right

/-- What a firing trigger leaves in its channel's record (R160 to R162). -/
def latchOf (s : State) : Fin 3 → ChannelState → ChannelState
  | 0, r => latchSweep (s.memRead Reg.ch1Sweep) (latchSquare psg (s.memRead Reg.ch1Duty) (s.memRead Reg.ch1Env)
      (s.memRead Reg.ch1Flo) (s.memRead Reg.ch1Fhi) r)
  | 1, r => latchSquare psg (s.memRead Reg.ch2Duty) (s.memRead Reg.ch2Env) (s.memRead Reg.ch2Flo)
      (s.memRead Reg.ch2Fhi) r
  | 2, r => commonReset r

/-- Every firing trigger writes what it latches into its channel's record. -/
theorem exec_trigOf_of_fires {s : State} {c : Fin 3} (hf : Fires s c) :
    exec (trigOf c) s = .next (withChan s c (latchOf s c (chan s c))) :=
  match c with
  | 0 => exec_trig1_of_fires hf
  | 1 => exec_trig2_of_fires hf
  | 2 => exec_trig3_of_fires hf

/-- Settles O23: the common reset sets `playing`, and nothing a trigger latches or tests depends on it. -/
theorem retriggerAssignsTheSame : Obligations.RetriggerAssignsTheSame := by
  intro s c hf
  refine ⟨withChan s c (latchOf s c (chan s c)), ?_⟩
  match c with
  | 0 => exact ⟨rfl, rfl, fun on => exec_trig1_of_fires (s := withChan s 0 { s.st0 with playing := on }) hf⟩
  | 1 => exact ⟨rfl, rfl, fun on => exec_trig2_of_fires (s := withChan s 1 { s.st1 with playing := on }) hf⟩
  | 2 => exact ⟨rfl, rfl, fun on => exec_trig3_of_fires (s := withChan s 2 { s.st2 with playing := on }) hf⟩

/-- Settles O25: the two cases of `LIVE1.FLO`. -/
theorem liveFrequencyLowOnlyDuringSweep : Obligations.LiveFrequencyLowOnlyDuringSweep := by
  intro s
  obtain ⟨hactive, h⟩ | ⟨hzero, h⟩ := execLive1Flo_cases s
  · exact ⟨fun _ => ⟨_, h, replaceLowByte_toNat ..⟩, fun hzero => absurd (BitVec.eq_of_toNat_eq hzero) hactive⟩
  · exact ⟨fun hactive => absurd (congrArg BitVec.toNat hzero) (Nat.one_le_iff_ne_zero.mp hactive), fun _ => h⟩

end Sys2Proof.Machine
end

section
/-! Requests (R181): what one emits and leaves, what the next one of the same channel starts from (R199, R231), and that
requests of different channels do not meet (D27). -/

namespace Sys2Proof.Machine

open Sys2Proof.Claims

/-- Settles O27: the three generators of `GEN` work on three different records and streams. -/
theorem genRunsTheThreeGenerators : Obligations.GenRunsTheThreeGenerators := fun _ _ =>
  ⟨_, _, _, rfl, rfl, rfl, rfl⟩

/-- Settles O26: a request runs as many slots as it asks for, and each emits one sample. -/
theorem requestEmitsExactlyItsSamples : Obligations.RequestEmitsExactlyItsSamples :=
  ⟨fun n s c => ⟨_, _, runSlots_length _ _ _, exec_genOf s c n⟩,
    fun _ _ => ⟨_, _, _, _, _, _, runSlots_length _ _ _, runSlots_length _ _ _, runSlots_length _ _ _, rfl⟩⟩

/-- `GEN` is the three requests in a row (R181). -/
theorem exec_gen_of_requests {n : BitVec 16} {s t u v : State} (h1 : exec (genOf 0 n) s = .next t)
    (h2 : exec (genOf 1 n) t = .next u) (h3 : exec (genOf 2 n) u = .next v) : exec (.gen n) s = .next v := by
  cases h1
  cases h2
  exact h3

/-- Settles O29: at reset the three channels are off. -/
theorem resetIsSilent : Obligations.ResetIsSilent := fun n _ =>
  exec_gen_of_requests (offChannelEmitsSilence n _ 0 rfl) (offChannelEmitsSilence n _ 1 rfl)
    (offChannelEmitsSilence n _ 2 rfl)

section AfterRequest

variable (s : State) (r r' : ChannelState) (vs vs' : List Sample)

/-- No request changes the waveform of a channel: they leave the wave table. -/
theorem waveOf_afterRequest (c d : Fin 3) : waveOf (withEmitted (withChan s c r) c vs) d = waveOf s d := by
  match d with
  | 0 | 1 => rfl
  | 2 =>
    have hbytes : (withEmitted (withChan s c r) c vs).waveByte = s.waveByte := by
      funext j
      rw [State.waveByte, withEmitted_memRead, withChan_memRead, State.waveByte]
    rw [waveOf, hbytes, waveOf]

/-- Two requests of one channel leave the record of the second and the samples of both. -/
theorem afterRequest_twice (c : Fin 3) :
    withEmitted (withChan (withEmitted (withChan s c r) c vs) c r') c vs' =
      withEmitted (withChan s c r') c (vs ++ vs') := by
  match c with
  | 0 | 1 | 2 => simp only [withEmitted, withChan, List.append_assoc]

/-- Requests of different channels write different fields. -/
theorem afterRequest_comm {c d : Fin 3} (h : c ≠ d) :
    withEmitted (withChan (withEmitted (withChan s c r) c vs) d r') d vs' =
      withEmitted (withChan (withEmitted (withChan s d r') d vs') c r) c vs :=
  match c, d with
  | 0, 1 | 0, 2 | 1, 0 | 1, 2 | 2, 0 | 2, 1 => rfl
  | 0, 0 | 1, 1 | 2, 2 => absurd rfl h

/-- A request leaves what the next request of another channel starts from. -/
theorem startOf_afterRequest_ne {c d : Fin 3} (h : c ≠ d) :
    startOf (withEmitted (withChan s c r) c vs) d = startOf s d :=
  match c, d with
  | 0, 1 | 0, 2 | 1, 0 | 1, 2 | 2, 0 | 2, 1 => rfl
  | 0, 0 | 1, 1 | 2, 2 => absurd rfl h

end AfterRequest

/-- The record a request leaves is what the next request of the channel starts from: re-deriving channel 3 once more
changes nothing, and an off channel is not re-derived (R199, R221, R231). -/
theorem startOf_afterRequest (s : State) (c : Fin 3) (n : Nat) (vs : List Sample) :
    startOf (withEmitted (withChan s c (runSlots (outputSlot psg (waveOf s c)) n (startOf s c)).1) c vs) c =
      (runSlots (outputSlot psg (waveOf s c)) n (startOf s c)).1 := by
  match c with
  | 0 | 1 => rfl
  | 2 =>
    obtain ⟨hcode, hduration, hshift⟩ := runGen3_latched n s
    cases hplaying : s.st2.playing with
    | false =>
      have hoff : (chan s 2).playing = false := hplaying
      rw [startOf_off s hoff, runSlots_off psg _ _ hoff]
      exact startOf_off _ (c := 2) hoff
    | true =>
      have hstart : startGen3 s = rederive psg (s.memRead Reg.ch3Fhi) (s.memRead Reg.ch3Flo) (s.memRead Reg.ch3Len)
          (s.memRead Reg.ch3Level) s.st2 := if_pos hplaying
      rw [hstart] at hcode hduration hshift
      show startGen3 _ = _
      unfold startGen3
      split
      · refine rederive_of_current _ _ _ _ _ _ ?_ hcode.symm hshift.symm
        exact ((rederive_duration ..).symm.trans hduration.symm)
      · rfl

/-- Settles O30: the second part starts from the record the first has left, over the same wave table. -/
theorem requestsSplit : Obligations.RequestsSplit := by
  intro n m s c hsum
  refine ⟨_, exec_genOf s c n, ?_⟩
  rw [exec_genOf, startOf_afterRequest, waveOf_afterRequest, afterRequest_twice, exec_genOf,
    BitVec.toNat_add_of_lt hsum, runSlots_add]

/-- Settles O31: neither request changes what the other starts from, plays, or writes. -/
theorem generatorsCommute : Obligations.GeneratorsCommute := by
  intro n m s c d h
  refine ⟨_, _, _, exec_genOf s c n, exec_genOf _ d m, exec_genOf s d m, ?_⟩
  rw [exec_genOf, startOf_afterRequest_ne _ _ _ h, waveOf_afterRequest, startOf_afterRequest_ne _ _ _ h.symm,
    waveOf_afterRequest, afterRequest_comm _ _ _ _ _ h]

/-- The re-derivation keeps `playing`, so a request starts from a record that plays as the channel does (R221). -/
theorem startsFrom_playing {s : State} {c : Fin 3} {r : ChannelState} (h : StartsFrom s c r) :
    r.playing = (chan s c).playing :=
  match c with
  | 0 | 1 => congrArg ChannelState.playing h
  | 2 => (congrArg ChannelState.playing (startOf_of_startsFrom h).symm).trans (startGen3_playing s)

/-- Settles O32: the first slot turns the channel off and the others find it off. -/
theorem finiteNoteEndsSilently : Obligations.FiniteNoteEndsSilently := by
  intro n s c r hn hplaying hstart hended
  obtain ⟨k, hk⟩ := Nat.exists_eq_add_of_le' hn
  have hfirst := outputSlot_ended psg (waveOf s c) r ((startsFrom_playing hstart).trans hplaying)
    ((noteEnded_eq_true r).mpr hended)
  rw [exec_genOf, startOf_of_startsFrom hstart, hk, runSlots_succ, hfirst, runSlots_off psg _ _ (turnOff_playing r)]
  rfl

/-- A `GEN3` call from the record a first re-derivation leaves is the same call (R221). -/
theorem runGen3_startGen3 (n : Nat) (s : State) : runGen3 n { s with st2 := startGen3 s } = runGen3 n s := by
  have hidem := startGen3_idem s
  unfold runGen3
  rw [hidem]
  rfl

/-- A call of no samples only re-derives (R221, D23). -/
theorem exec_gen3_zero (s : State) : exec (.gen3 0#16) s = .next { s with st2 := startGen3 s } := by
  have hemit : runGen3 0 s = { s with st2 := startGen3 s, out3 := s.out3 ++ [] } := rfl
  rw [List.append_nil] at hemit
  exact congrArg _ hemit

/-- Settles O38: while the channel plays a call re-derives first, and its slots leave what is re-derived; an off channel
is not re-derived and its slots change nothing. -/
theorem waveCallRederives : Obligations.WaveCallRederives := by
  refine fun s => ⟨fun hplaying => ?_, fun hoff => ⟨?_, fun n => ?_⟩⟩
  · exact ⟨startGen3 s, startGen3_rederived hplaying, exec_gen3_zero s,
      fun n => ⟨runGen3 n.toNat s, rfl, congrArg Host.Outcome.next (runGen3_startGen3 n.toNat s),
        runGen3_latched n.toNat s⟩⟩
  · have hstart : startGen3 s = s.st2 := startOf_off s (c := 2) hoff
    rw [exec_gen3_zero, hstart]
  · exact ⟨_, offChannelEmitsSilence n s 2 hoff, rfl⟩

end Sys2Proof.Machine
end

section
/-! One waveform slot (R184 to R194): the sweep in the statements' words, and what a slot leaves of phase, note length,
sweep, envelope and sample. -/

namespace Sys2Proof.Machine

open Sys2Proof.Claims

/-- What a sweep overflow leaves of the record (R188). -/
def sweptOut (r : ChannelState) : ChannelState :=
  { r with
    volume := 0#4, sweepStep := 0#3, envelopeStep := 0#3, sweepTime := 0#3, playing := false, sweepCounter := 0 }

/-- Everything a slot's sweep step can do, by the conditions the statements speak of (R187, R188). -/
theorem sweepTick_due_cases (r : ChannelState) :
    (¬ SweepDue r ∧ sweepTick psg r =
      { r with sweepCounter := if r.sweepTime = 0#3 then r.sweepCounter else r.sweepCounter + 1 }) ∨
    (Overflows r ∧ sweepTick psg r = sweptOut r) ∨
    (SweepDue r ∧ r.sweepDirection = false ∧ r.rawFrequency.toNat + sweepAmount r < 2048 ∧ sweepTick psg r =
      { r with rawFrequency := BitVec.ofNat 11 (r.rawFrequency.toNat + sweepAmount r), sweepCounter := 0 }) ∨
    (SweepDue r ∧ r.sweepDirection = true ∧ sweepTick psg r =
      { r with rawFrequency := BitVec.ofNat 11 (r.rawFrequency.toNat - sweepAmount r), sweepCounter := 0 }) := by
  have hdelta := sweepDelta_psg r
  obtain ⟨htime, h⟩ | ⟨htime, hcounts, h⟩ | ⟨htime, hdue, hup, hover, h⟩ | ⟨htime, hdue, hup, hover, h⟩ |
    ⟨htime, hdue, hdown, h⟩ := sweepTick_cases psg r
  · exact .inl ⟨fun hdue => hdue.1 htime, by rw [h, if_pos htime]⟩
  · have hnot : ¬ SweepDue r := fun hdue => absurd ((sweepDue_iff psg r).mpr hdue.2) (Bool.eq_false_iff.mp hcounts)
    exact .inl ⟨hnot, by rw [h, if_neg htime]⟩
  · exact .inr (.inl ⟨⟨⟨htime, (sweepDue_iff psg r).mp hdue⟩, hup, hdelta ▸ (sweepOverflows_iff psg r).mp hover⟩, h⟩)
  · have hbelow : ¬ 2048 ≤ r.rawFrequency.toNat + sweepDelta psg r :=
      mt (sweepOverflows_iff psg r).mpr (Bool.eq_false_iff.mp hover)
    rw [hdelta] at h hbelow
    exact .inr (.inr (.inl ⟨⟨htime, (sweepDue_iff psg r).mp hdue⟩, hup, Nat.lt_of_not_le hbelow, h⟩))
  · rw [hdelta] at h
    exact .inr (.inr (.inr ⟨⟨htime, (sweepDue_iff psg r).mp hdue⟩, hdown, h⟩))

/-- The frame of the envelope step, field by field. -/
theorem envelopeTick_fields (cfg : Config) (r : ChannelState) :
    (envelopeTick cfg r).playing = r.playing ∧ (envelopeTick cfg r).rawFrequency = r.rawFrequency ∧
    (envelopeTick cfg r).envelopeStep = r.envelopeStep ∧
    (envelopeTick cfg r).envelopeDirection = r.envelopeDirection ∧
    (envelopeTick cfg r).sweepDirection = r.sweepDirection ∧ (envelopeTick cfg r).sweepStep = r.sweepStep ∧
    (envelopeTick cfg r).sweepTime = r.sweepTime ∧ (envelopeTick cfg r).sweepCounter = r.sweepCounter := by
  rw [envelopeTick_frame]
  exact ⟨rfl, rfl, rfl, rfl, rfl, rfl, rfl, rfl⟩

/-- A waveform slot advances the phase once and leaves note length, duration, duty and shift (R191, R225). -/
theorem waveOf_frame (s : State) (c : Fin 3) (r : ChannelState) :
    (waveOf s c r).1.freqDist = (phaseAdvance psg (phaseScale c) r).freqDist ∧
    (waveOf s c r).1.sampleLength = r.sampleLength ∧ (waveOf s c r).1.duration = r.duration ∧
    (waveOf s c r).1.dutyStart = r.dutyStart ∧ (waveOf s c r).1.dutyEnd = r.dutyEnd ∧
    (waveOf s c r).1.waveShift = r.waveShift := by
  match c with
  | 0 =>
    obtain ⟨hphase, hlength, hduration, hstart, hend, -, -, -, hshift⟩ :=
      sweepTick_frame psg (phaseAdvance psg 131072 r)
    rw [waveOf_square s (by decide) r, envelopeTick_frame]
    exact ⟨hphase, hlength, hduration, hstart, hend, hshift⟩
  | 1 =>
    rw [waveOf_square s (by decide) r, envelopeTick_frame]
    exact ⟨rfl, rfl, rfl, rfl, rfl, rfl⟩
  | 2 => exact ⟨rfl, rfl, rfl, rfl, rfl, rfl⟩

/-- Settles O33: the frame of the waveform slot between the reload and the countdown. -/
theorem waveformSlotAdvancesPhaseAndCountsDown : Obligations.WaveformSlotAdvancesPhaseAndCountsDown := by
  intro s c r hstart hw
  obtain ⟨hphase, hlength, hduration, hdutyStart, hdutyEnd, hshift⟩ := waveOf_frame s c (reloadLength psg r)
  refine ⟨_, exec_genOf_one hstart hw, ?_⟩
  rw [chan_withEmitted, chan_withChan]
  exact ⟨hphase, congrArg (· - 1) hlength, hduration, hdutyStart, hdutyEnd, hshift⟩

/-- After an overflow the envelope has no step left, so the slot leaves what the sweep leaves (R188, D17). -/
theorem envelopeTick_sweptOut (r : ChannelState) : envelopeTick psg (sweptOut r) = sweptOut r := rfl

/-- At volume 0 a square channel is low (R192). -/
theorem squareSample_of_volume_zero {r : ChannelState} (h : r.volume = 0#4) : squareSample psg r = silence psg := by
  refine if_neg fun hhigh => ?_
  obtain ⟨-, -, hvolume⟩ := (dutyHigh_iff psg r).mp hhigh
  rw [h] at hvolume
  exact absurd hvolume (by decide)

/-- The code plus or minus the sweep's amount stays in the code's eleven bits (R188). -/
theorem sweptCode_toNat {code : Nat} (h : code < 2048) : (BitVec.ofNat 11 code).toNat = code := by
  rw [BitVec.toNat_ofNat]
  exact Nat.mod_eq_of_lt h

theorem code_sub_lt (r : ChannelState) (k : Nat) : r.rawFrequency.toNat - k < 2048 :=
  (Nat.sub_le _ _).trans_lt r.rawFrequency.isLt

/-- The record the sweep step of a waveform slot of channel 1 works on. -/
def beforeSweep (r : ChannelState) : ChannelState := phaseAdvance psg 131072 (reloadLength psg r)

/-- One waveform slot of channel 1: the envelope and the countdown leave what the sweep leaves of the code, the flags
and the sweep's own fields (R191). -/
theorem exec_gen1_one {s : State} (hw : InWaveform s.st0) : ∃ t, exec (.gen1 1#16) s = .next t ∧
    t.st0 = countDown (envelopeTick psg (sweepTick psg (beforeSweep s.st0))) ∧
    t.out1 = s.out1 ++ [squareSample psg (envelopeTick psg (sweepTick psg (beforeSweep s.st0)))] ∧
    t.st0.playing = (sweepTick psg (beforeSweep s.st0)).playing ∧
    t.st0.rawFrequency = (sweepTick psg (beforeSweep s.st0)).rawFrequency ∧
    t.st0.envelopeStep = (sweepTick psg (beforeSweep s.st0)).envelopeStep ∧
    t.st0.envelopeDirection = (sweepTick psg (beforeSweep s.st0)).envelopeDirection ∧
    t.st0.sweepDirection = (sweepTick psg (beforeSweep s.st0)).sweepDirection ∧
    t.st0.sweepStep = (sweepTick psg (beforeSweep s.st0)).sweepStep ∧
    t.st0.sweepTime = (sweepTick psg (beforeSweep s.st0)).sweepTime ∧
    t.st0.sweepCounter = (sweepTick psg (beforeSweep s.st0)).sweepCounter :=
  ⟨_, exec_genOf_one (c := 0) rfl hw, rfl, rfl, envelopeTick_fields psg _⟩

/-- Settles O34: the four outcomes of the sweep step; the steps around it leave what they speak of, and after an
overflow the envelope is idle and the sample low. -/
theorem sweepCadenceAndEvent : Obligations.SweepCadenceAndEvent := by
  intro s hw
  obtain ⟨t, hexec, ht, hout, hplaying, hcode, henvStep, henvDirection, hdirection, hstep, htime, hcounter⟩ :=
    exec_gen1_one hw
  refine ⟨t, hexec, ?_⟩
  obtain ⟨hnot, h⟩ | ⟨hover, h⟩ | ⟨hdue, hup, hbelow, h⟩ | ⟨hdue, hdown, h⟩ :=
    sweepTick_due_cases (beforeSweep s.st0) <;>
    rw [h] at hplaying hcode henvStep henvDirection hdirection hstep htime hcounter
  · exact ⟨fun hz => hcounter.trans (if_pos hz), fun hne _ => hcounter.trans (if_neg hne), fun _ => hcode,
      fun hdue => absurd hdue hnot, fun hdue => absurd hdue hnot, fun hdue => absurd hdue hnot,
      fun hover => absurd hover.1 hnot, fun _ => ⟨hplaying.trans hw.1, hstep, htime, henvStep⟩, hdirection,
      henvDirection⟩
  · obtain ⟨hdue, hup, -⟩ := id hover
    rw [h, envelopeTick_sweptOut] at ht hout
    refine ⟨fun hz => absurd hz hdue.1, fun _ hnot => absurd hdue hnot, fun hnot => absurd hdue hnot, fun _ => hcounter,
      fun _ hdown => Bool.noConfusion (hup.symm.trans hdown), fun _ _ hnot => absurd hover hnot, fun _ => ?_,
      fun hnot => absurd hover hnot, hdirection, henvDirection⟩
    rw [squareSample_of_volume_zero rfl] at hout
    exact ⟨hcode, ht ▸ rfl, hstep, henvStep, htime, hplaying, ht ▸ rfl, hout⟩
  · have hnot : ¬ Overflows (beforeSweep s.st0) := fun hover => absurd hbelow (Nat.not_lt_of_le hover.2.2)
    exact ⟨fun hz => absurd hz hdue.1, fun _ hnot => absurd hdue hnot, fun hnot => absurd hdue hnot, fun _ => hcounter,
      fun _ hdown => Bool.noConfusion (hup.symm.trans hdown),
      fun _ _ _ => (congrArg BitVec.toNat hcode).trans (sweptCode_toNat hbelow),
      fun hover => absurd hover hnot, fun _ => ⟨hplaying.trans hw.1, hstep, htime, henvStep⟩, hdirection, henvDirection⟩
  · have hnot : ¬ Overflows (beforeSweep s.st0) := fun hover => Bool.noConfusion (hover.2.1.symm.trans hdown)
    exact ⟨fun hz => absurd hz hdue.1, fun _ hnot => absurd hdue hnot, fun hnot => absurd hdue hnot, fun _ => hcounter,
      fun _ _ => (congrArg BitVec.toNat hcode).trans (sweptCode_toNat (code_sub_lt _ _)),
      fun _ hup => Bool.noConfusion (hup.symm.trans hdown), fun hover => absurd hover hnot,
      fun _ => ⟨hplaying.trans hw.1, hstep, htime, henvStep⟩, hdirection, henvDirection⟩

/-- Of the three cases of the envelope step, one that is not due counts if there is a step at all (R189). -/
theorem envelopeTick_of_not_due {r : ChannelState} (h : ¬ EnvelopeDue r) :
    envelopeTick psg r =
      { r with envelopeCounter := if r.envelopeStep = 0#3 then r.envelopeCounter else r.envelopeCounter + 1 } := by
  obtain ⟨hzero, ht⟩ | ⟨hstep, -, ht⟩ | ⟨hstep, hdue, -⟩ := envelopeTick_cases psg r
  · rw [ht, if_pos hzero]
  · rw [ht, if_neg hstep]
  · exact absurd ⟨hstep, (envelopeDue_iff psg r).mp hdue⟩ h

/-- Settles O36: the envelope's fields reach its step as the slot found them, and the step is no event. -/
theorem envelopeCadence : Obligations.EnvelopeCadence := by
  intro s c hc hw hover hdue
  obtain ⟨t, hexec, ht⟩ := exec_genOf_one_square hc hw
  obtain ⟨hvolume, hstep, -, hcounter⟩ := beforeEnvelope_frame (r := reloadLength psg (chan s c)) hover
  have hdue' : ¬ EnvelopeDue (beforeEnvelope c (reloadLength psg (chan s c))) := by
    rwa [EnvelopeDue, hstep, hcounter]
  rw [envelopeTick_of_not_due hdue'] at ht
  refine ⟨t, hexec, ?_, ?_, ?_⟩ <;> rw [ht]
  · exact hvolume
  · exact hstep
  · rw [countDown_envelopeCounter, hstep, hcounter]
    rfl

/-- The sample of a square channel as an exact number (R192, R193). -/
theorem squareSample_toInt (r : ChannelState) : (squareSample psg r).toInt =
    if 44100 * P r * r.dutyStart.toNat ≤ r.freqDist * 2 ^ 20 ∧ r.freqDist * 2 ^ 20 < 44100 * P r * r.dutyEnd.toNat ∧
      1 ≤ r.volume.toNat
    then ((32767 * r.volume.toNat / 16 : Nat) : Int) else -32768 := by
  rw [squareSample, apply_ite BitVec.toInt, amplitude_toInt, silence_toInt]
  exact if_congr (dutyHigh_iff psg r) rfl rfl

/-- A square slot's sample is that of the record it leaves, after sweep and envelope (R191). -/
theorem waveOf_square_sample (s : State) {c : Fin 3} (hc : c ≠ 2) (r : ChannelState) :
    (waveOf s c r).2 = squareSample psg (waveOf s c r).1 :=
  match c with
  | 0 | 1 => rfl
  | 2 => absurd rfl hc

@[simp] theorem stream_withEmitted (s : State) (c : Fin 3) (r : ChannelState) (vs : List Sample) :
    stream (withEmitted (withChan s c r) c vs) c = stream s c ++ vs :=
  match c with
  | 0 | 1 | 2 => rfl

/-- The start of a square channel's request is its record. -/
theorem startsFrom_square (s : State) {c : Fin 3} (hc : c ≠ 2) : StartsFrom s c (chan s c) :=
  match c with
  | 0 | 1 => rfl
  | 2 => absurd rfl hc

/-- Settles O37: the countdown after the waveform leaves all the sample is computed from. -/
theorem squareSampleUsesUpdatedCodeAndVolume : Obligations.SquareSampleUsesUpdatedCodeAndVolume := by
  intro s c hc hw
  refine ⟨_, _, exec_genOf_one (startsFrom_square s hc) hw, stream_withEmitted _ _ _ _, ?_⟩
  rw [chan_withEmitted, chan_withChan, waveOf_square_sample s hc]
  exact squareSample_toInt _

/-- A sweep step that is no increase by more than 0 leaves the code or lowers it (R188). -/
theorem sweepTick_code_le {r : ChannelState}
    (h : ¬ SweepDue r ∨ r.sweepDirection = true ∨ Overflows r ∨ sweepAmount r = 0) :
    (sweepTick psg r).rawFrequency.toNat ≤ r.rawFrequency.toNat := by
  obtain ⟨-, ht⟩ | ⟨-, ht⟩ | ⟨hdue, hup, hbelow, ht⟩ | ⟨-, -, ht⟩ := sweepTick_due_cases r
  · exact (congrArg (fun r => r.rawFrequency.toNat) ht).le
  · exact (congrArg (fun r => r.rawFrequency.toNat) ht).le
  · rw [ht, sweptCode_toNat hbelow]
    obtain hnot | hdown | hover | hzero := h
    · exact absurd hdue hnot
    · exact Bool.noConfusion (hup.symm.trans hdown)
    · exact absurd hbelow (Nat.not_lt_of_le hover.2.2)
    · rw [hzero, Nat.add_zero]
  · rw [ht, sweptCode_toNat (code_sub_lt _ _)]
    exact Nat.sub_le _ _

/-- The code after a waveform slot: only channel 1's sweep writes it. -/
theorem waveOf_code (s : State) (c : Fin 3) (r : ChannelState) : (waveOf s c r).1.rawFrequency =
    if c = 0 then (sweepTick psg (phaseAdvance psg 131072 r)).rawFrequency else r.rawFrequency := by
  match c with
  | 0 | 1 => rw [waveOf_square s (by decide) r, envelopeTick_frame]; rfl
  | 2 => rfl

/-- Settles O58: the advance puts the phase below the period, and no sweep but one that raises the code shortens it. -/
theorem phaseIsBelowPeriodAfterSlot : Obligations.PhaseIsBelowPeriodAfterSlot := by
  intro s c r hstart hw hraise
  refine ⟨_, exec_genOf_one hstart hw, ?_⟩
  obtain ⟨hphase, -⟩ := waveOf_frame s c (reloadLength psg r)
  have hcode : (waveOf s c (reloadLength psg r)).1.rawFrequency.toNat ≤ r.rawFrequency.toNat := by
    rw [waveOf_code]
    split
    · next hc => exact sweepTick_code_le (r := beforeSweep r) (hraise hc)
    · rfl
  have hperiod := phaseAdvance_phaseInPeriod (phaseScale c) (reloadLength psg r)
  rw [chan_withEmitted, chan_withChan]
  calc (waveOf s c (reloadLength psg r)).1.freqDist * phaseScale c
      = (phaseAdvance psg (phaseScale c) (reloadLength psg r)).freqDist * phaseScale c := by rw [hphase]
    _ < 44100 * P r := hperiod
    _ ≤ 44100 * P (waveOf s c (reloadLength psg r)).1 := Nat.mul_le_mul_left _ (Nat.sub_le_sub_left hcode _)

end Sys2Proof.Machine
end

section
/-! Whole notes (R183, R184, R197): how long a note plays, what a decreasing sweep and an idle envelope leave over any
request, and the period of the square waveform. -/

namespace Sys2Proof.Machine

open Sys2Proof.Claims

theorem noteEnded_eq_false {r : ChannelState} (h : ¬ Ended r) : noteEnded r = false :=
  Bool.eq_false_iff.mpr (mt (noteEnded_eq_true r).mp h)

/-- No sweep of the channel can stop it: only channel 1 has one, and an idle or decreasing one never overflows
(R188). -/
def NeverSweptOut (c : Fin 3) (r : ChannelState) : Prop := c = 0 → r.sweepTime = 0#3 ∨ r.sweepDirection = true

section NeverSweptOut

variable {c : Fin 3} {r : ChannelState}

/-- Such a sweep step keeps the channel on, and its settings. -/
theorem sweepTick_of_neverSweptOut (h : NeverSweptOut 0 r) :
    (sweepTick psg r).playing = r.playing ∧ (sweepTick psg r).sweepTime = r.sweepTime ∧
      (sweepTick psg r).sweepDirection = r.sweepDirection ∧ (sweepTick psg r).sweepStep = r.sweepStep := by
  obtain ⟨-, ht⟩ | ⟨⟨⟨htime, -⟩, hup, -⟩, -⟩ | ⟨-, -, -, ht⟩ | ⟨-, -, ht⟩ := sweepTick_due_cases r
  case inr.inl =>
    obtain hidle | hdown := h rfl
    · exact absurd hidle htime
    · exact Bool.noConfusion (hup.symm.trans hdown)
  all_goals rw [ht]; exact ⟨rfl, rfl, rfl, rfl⟩

/-- A waveform slot of such a channel keeps it on, and it stays such a channel. -/
theorem waveOf_of_neverSweptOut (s : State) (h : NeverSweptOut c r) :
    (waveOf s c r).1.playing = r.playing ∧ NeverSweptOut c (waveOf s c r).1 := by
  match c with
  | 0 =>
    obtain ⟨hplaying, htime, hdirection, -⟩ := sweepTick_of_neverSweptOut (r := phaseAdvance psg 131072 r) h
    rw [waveOf_square s (by decide) r, envelopeTick_frame]
    exact ⟨hplaying, fun hc => htime ▸ hdirection ▸ h hc⟩
  | 1 =>
    rw [waveOf_square s (by decide) r, envelopeTick_frame]
    exact ⟨rfl, nofun⟩
  | 2 => exact ⟨rfl, nofun⟩

end NeverSweptOut

/-- A finite note of `r.sampleLength` samples over a request of `n`: it plays `r.sampleLength` slots, goes off in the
next, and is silent from there on (R183). -/
theorem runSlots_finite (s : State) {c : Fin 3} (n : Nat) {r : ChannelState} (hsweep : NeverSweptOut c r)
    (hplaying : r.playing = true) (hfinite : r.duration ≠ .indefinite) :
    (n ≤ r.sampleLength → (runSlots (outputSlot psg (waveOf s c)) n r).1.playing = true ∧
      (runSlots (outputSlot psg (waveOf s c)) n r).1.sampleLength = r.sampleLength - n) ∧
    (r.sampleLength < n → (runSlots (outputSlot psg (waveOf s c)) n r).1.playing = false ∧
      (runSlots (outputSlot psg (waveOf s c)) n r).1.sampleLength = 0) ∧
    (runSlots (outputSlot psg (waveOf s c)) n r).2.drop r.sampleLength =
      List.replicate (n - r.sampleLength) (silence psg) := by
  induction n generalizing r with
  | zero => exact ⟨fun _ => ⟨hplaying, rfl⟩, nofun, by rw [runSlots_zero, Nat.zero_sub]; exact List.drop_nil⟩
  | succ n ih =>
    rw [runSlots_succ]
    cases hlength : r.sampleLength with
    | zero =>
      rw [outputSlot_ended psg _ r hplaying ((noteEnded_eq_true r).mpr ⟨hlength, hfinite⟩),
        runSlots_off psg _ _ (turnOff_playing r)]
      exact ⟨nofun, fun _ => ⟨rfl, hlength⟩, rfl⟩
    | succ l =>
      have hgoes : noteEnded r = false := noteEnded_eq_false fun hended => nomatch hended.1.symm.trans hlength
      have hloaded : reloadLength psg r = r := by
        rw [reloadLength, if_neg (by omega)]
      obtain ⟨-, hleft, hduration, -⟩ := waveOf_frame s c r
      obtain ⟨hon, hsweep'⟩ := waveOf_of_neverSweptOut s hsweep
      obtain ⟨hplays, hends, hsilent⟩ := ih (r := countDown (waveOf s c r).1) hsweep' (hon.trans hplaying)
        (hduration ▸ hfinite)
      have hleft : (countDown (waveOf s c r).1).sampleLength = l := by
        rw [countDown_sampleLength, hleft, hlength, Nat.add_sub_cancel]
      rw [hleft] at hplays hends hsilent
      rw [outputSlot_wave psg _ r hplaying hgoes, hloaded, Nat.add_le_add_iff_right, Nat.add_lt_add_iff_right,
        Nat.add_sub_add_right, Nat.add_sub_add_right]
      exact ⟨hplays, hends, hsilent⟩

/-- Settles O40: the note's count falls by one a slot, and the sample after the slot that finds it at 0 is silent. -/
theorem finiteNoteLastsItsLength : Obligations.FiniteNoteLastsItsLength := by
  intro n s c r hstart hplaying hfinite hsweep
  refine ⟨_, _, exec_genOf s c n, stream_withEmitted _ _ _ _, ?_⟩
  rw [chan_withEmitted, chan_withChan, startOf_of_startsFrom hstart]
  exact runSlots_finite s n.toNat hsweep hplaying hfinite

/-- An indefinite note that no sweep can stop plays on: no slot finds it ended (R184). -/
theorem runSlots_indefinite (s : State) {c : Fin 3} (n : Nat) {r : ChannelState} (hsweep : NeverSweptOut c r)
    (hplaying : r.playing = true) (hindefinite : r.duration = .indefinite) :
    (runSlots (outputSlot psg (waveOf s c)) n r).1.playing = true ∧
      (runSlots (outputSlot psg (waveOf s c)) n r).1.duration = .indefinite := by
  have hkeeps := runSlots_keeps (outputSlot psg (waveOf s c))
    (P := fun r => NeverSweptOut c r ∧ r.playing = true ∧ r.duration = .indefinite)
    (fun r ⟨hsweep, hplaying, hindefinite⟩ => ?_) n r ⟨hsweep, hplaying, hindefinite⟩
  · exact hkeeps.2
  · have hgoes : noteEnded r = false := noteEnded_eq_false fun hended => hended.2 hindefinite
    obtain ⟨-, -, hduration, -⟩ := waveOf_frame s c (reloadLength psg r)
    obtain ⟨hon, hsweep'⟩ := waveOf_of_neverSweptOut s (r := reloadLength psg r) hsweep
    rw [outputSlot_wave psg _ r hplaying hgoes]
    exact ⟨hsweep', hon.trans hplaying, hduration.trans hindefinite⟩

/-- Settles O41: every slot finds the note playing and leaves it so. -/
theorem indefiniteNotePlaysOn : Obligations.IndefiniteNotePlaysOn := by
  intro n s c r hstart hplaying hindefinite hsweep
  refine ⟨_, exec_genOf s c n, ?_⟩
  rw [chan_withEmitted, chan_withChan, startOf_of_startsFrom hstart]
  exact runSlots_indefinite s n.toNat hsweep hplaying hindefinite

/-- What a decreasing sweep of channel 1 leaves of a record `r`: its settings, and a code that is no higher (R188). -/
structure SweptDown (r r' : ChannelState) : Prop where
  code : r'.rawFrequency.toNat ≤ r.rawFrequency.toNat
  direction : r'.sweepDirection = true
  time : r'.sweepTime = r.sweepTime
  step : r'.sweepStep = r.sweepStep

/-- A slot of channel 1 with a decreasing sweep leaves as much. -/
theorem SweptDown.outputSlot {r r' : ChannelState} (h : SweptDown r r') :
    SweptDown r (outputSlot psg (waveSlot1 psg) r').1 := by
  refine outputSlot_keeps (P := SweptDown r) (fun _ h => { h with }) (fun r' _ h => ?_) r' h
  have hdown : (beforeSweep r').sweepDirection = true := h.direction
  obtain ⟨-, htime, hdirection, hstep⟩ := sweepTick_of_neverSweptOut (r := beforeSweep r') fun _ => .inr hdown
  have hcode := sweepTick_code_le (.inr (.inl hdown))
  obtain ⟨-, hcode', -, -, hdirection', hstep', htime', -⟩ := envelopeTick_fields psg (sweepTick psg (beforeSweep r'))
  exact
    { code := (congrArg BitVec.toNat hcode').le.trans (hcode.trans h.code)
      direction := hdirection'.trans (hdirection.trans h.direction)
      time := htime'.trans (htime.trans h.time)
      step := hstep'.trans (hstep.trans h.step) }

/-- Settles O43: every slot leaves the settings and no higher code, and without an overflow only a note's end stops the
channel. -/
theorem decreasingSweepNeverStops : Obligations.DecreasingSweepNeverStops := by
  intro n s hdown
  have hswept := runSlots_keeps _ (P := SweptDown s.st0) (fun _ h => h.outputSlot) n.toNat s.st0
    ⟨le_rfl, hdown, rfl, rfl⟩
  refine ⟨_, exec_genOf s 0 n, hswept.code, hswept.direction, hswept.time, hswept.step, fun hplaying => ?_⟩
  by_cases hindefinite : s.st0.duration = .indefinite
  · have hplays := (runSlots_indefinite s n.toNat (c := 0) (fun _ => .inr hdown) hplaying hindefinite).1
    exact iff_of_true hplays (.inl hindefinite)
  · obtain ⟨hplays, hends, -⟩ := runSlots_finite s n.toNat (c := 0) (fun _ => .inr hdown) hplaying hindefinite
    refine ⟨fun hon => .inr (Nat.le_of_not_lt fun hlt => ?_), fun h => ?_⟩
    · exact Bool.noConfusion (hon.symm.trans (hends hlt).1)
    · exact (hplays (h.resolve_left hindefinite)).1

/-- What a channel without an envelope step keeps of a record `r`: the counter, and the volume unless a sweep of
channel 1 has silenced it (R189, R188). -/
structure EnvelopeIdle (c : Fin 3) (r r' : ChannelState) : Prop where
  step : r'.envelopeStep = 0#3
  counter : r'.envelopeCounter = r.envelopeCounter
  volume : r'.volume = r.volume ∨ (c = 0 ∧ r'.volume = 0#4 ∧ r'.playing = false)

/-- Up to the envelope step a slot keeps as much: an overflow clears the volume and turns the channel off (R188). -/
theorem beforeEnvelope_idle {c : Fin 3} {r : ChannelState} (hstep : r.envelopeStep = 0#3) :
    EnvelopeIdle c r (beforeEnvelope c r) := by
  by_cases hover : c = 0 ∧ Overflows r
  · obtain ⟨rfl, hover⟩ := hover
    obtain ⟨hnot, -⟩ | ⟨-, ht⟩ | ⟨-, -, hbelow, -⟩ | ⟨-, hdown, -⟩ := sweepTick_due_cases (phaseAdvance psg 131072 r)
    · exact absurd hover.1 hnot
    · rw [beforeEnvelope, ht]
      exact ⟨rfl, rfl, .inr ⟨rfl, rfl, rfl⟩⟩
    · exact absurd hbelow (Nat.not_lt_of_le hover.2.2)
    · exact Bool.noConfusion (hover.2.1.symm.trans hdown)
  · obtain ⟨hvolume, hstep', -, hcounter⟩ := beforeEnvelope_frame (c := c) (r := r) fun hc hr => hover ⟨hc, hr⟩
    exact ⟨hstep'.trans hstep, hcounter, .inl hvolume⟩

/-- A slot of a square channel without an envelope step keeps as much. -/
theorem EnvelopeIdle.outputSlot (s : State) {c : Fin 3} (hc : c ≠ 2) {r r' : ChannelState} (h : EnvelopeIdle c r r') :
    EnvelopeIdle c r (outputSlot psg (waveOf s c) r').1 := by
  refine outputSlot_keeps (P := EnvelopeIdle c r) (fun _ h => ?_) (fun r' hplaying h => ?_) r' h
  · exact { h with volume := h.volume.imp id fun ⟨hc, hzero, _⟩ => ⟨hc, hzero, rfl⟩ }
  · have hvolume : r'.volume = r.volume :=
      h.volume.resolve_right fun ⟨_, _, hoff⟩ => Bool.noConfusion (hplaying.symm.trans hoff)
    obtain ⟨hstep, hcounter, hkept⟩ := beforeEnvelope_idle (c := c) (r := reloadLength psg r') h.step
    have hidle : envelopeTick psg (beforeEnvelope c (reloadLength psg r')) = beforeEnvelope c (reloadLength psg r') :=
      if_pos hstep
    rw [waveOf_square s hc, hidle]
    exact ⟨hstep, hcounter.trans h.counter, hkept.imp_left fun hv => hv.trans hvolume⟩

/-- Settles O44: every slot of such a channel leaves the envelope alone. -/
theorem noEnvelopeKeepsVolume : Obligations.NoEnvelopeKeepsVolume := by
  intro n s c hc hstep
  have hidle := runSlots_keeps (outputSlot psg (waveOf s c)) (P := EnvelopeIdle c (chan s c))
    (fun _ h => h.outputSlot s hc) n.toNat (chan s c) ⟨hstep, rfl, .inl rfl⟩
  refine ⟨_, exec_genOf s c n, ?_⟩
  rw [chan_withEmitted, chan_withChan, startOf_square s hc]
  exact ⟨hidle.step, hidle.counter, hidle.volume⟩

/-- The period in slots is the least count of them that reaches the period in samples (R185). -/
theorem periodSlots_le_iff (r : ChannelState) (n : Nat) : periodSlots r ≤ n ↔ 44100 * P r ≤ n * 131072 := by
  rw [periodSlots]
  omega

/-- The sample a square channel emits at phase `f`, all else as in the record. -/
def squareSampleAt (r : ChannelState) (f : Nat) : Sample := squareSample psg { r with freqDist := f }

/-- An indefinite note of a square channel with a constant volume and no sweep, its phase inside the period. -/
structure ConstantTone (r : ChannelState) : Prop where
  playing : r.playing = true
  duration : r.duration = .indefinite
  envelopeStep : r.envelopeStep = 0#3
  sweepTime : r.sweepTime = 0#3
  phase : r.freqDist < periodSlots r

/-- What a slot of such a note leaves: the phase one further, and the count. -/
def nextInTone (r : ChannelState) : ChannelState :=
  { r with
    freqDist := (r.freqDist + 1) % periodSlots r
    sampleLength := (if r.sampleLength = 0 then 220500 else r.sampleLength) - 1 }

section ConstantTone

variable {c : Fin 3} {r : ChannelState}

/-- Inside the period the wrap to 0 is the remainder (R185). -/
theorem ConstantTone.phaseAdvance_freqDist (h : ConstantTone r) :
    (phaseAdvance psg 131072 r).freqDist = (r.freqDist + 1) % periodSlots r := by
  have hphase := h.phase
  have hwrap := periodSlots_le_iff r (r.freqDist + 1)
  obtain ⟨hle, hf⟩ | ⟨hlt, hf⟩ := phaseAdvance_freqDist_cases psg r 131072 <;> rw [hf]
  · rw [show r.freqDist + 1 = periodSlots r from Nat.le_antisymm hphase (hwrap.mpr hle), Nat.mod_self]
  · have hbelow : r.freqDist + 1 < periodSlots r :=
      Nat.lt_of_not_le fun hle => absurd (hwrap.mp hle) (Nat.not_le_of_lt hlt)
    exact (Nat.mod_eq_of_lt hbelow).symm

/-- A waveform slot without a sweep and an envelope is the phase advance (R191). -/
theorem waveOf_square_idle (s : State) (hc : c ≠ 2) (henvelope : r.envelopeStep = 0#3) (hsweep : r.sweepTime = 0#3) :
    waveOf s c r = (phaseAdvance psg 131072 r, squareSample psg (phaseAdvance psg 131072 r)) := by
  have hsweepTick : sweepTick psg (phaseAdvance psg 131072 r) = phaseAdvance psg 131072 r := if_pos hsweep
  have henvelopeTick : envelopeTick psg (phaseAdvance psg 131072 r) = phaseAdvance psg 131072 r := if_pos henvelope
  match c with
  | 0 => rw [waveOf, waveSlot1, hsweepTick, henvelopeTick]
  | 1 => rw [waveOf, waveSlot2, henvelopeTick]
  | 2 => exact absurd rfl hc

/-- A slot of such a note, for both square channels: neither sweep nor envelope has anything to do. -/
theorem ConstantTone.outputSlot (s : State) (hc : c ≠ 2) (h : ConstantTone r) :
    outputSlot psg (waveOf s c) r = (nextInTone r, squareSampleAt r ((r.freqDist + 1) % periodSlots r)) := by
  have hgoes : noteEnded r = false := noteEnded_eq_false fun hended => hended.2 h.duration
  rw [outputSlot_wave psg _ r h.playing hgoes,
    waveOf_square_idle s (r := reloadLength psg r) hc h.envelopeStep h.sweepTime, nextInTone,
    squareSampleAt, ← h.phaseAdvance_freqDist]
  rfl

theorem ConstantTone.next (h : ConstantTone r) : ConstantTone (nextInTone r) :=
  { h with phase := Nat.mod_lt _ (Nat.zero_lt_of_lt h.phase) }

/-- Over a request the phase counts the slots modulo the period, and sample `k` is the one of phase `k + 1` further. -/
theorem ConstantTone.runSlots (s : State) (hc : c ≠ 2) (n : Nat) (h : ConstantTone r) :
    (runSlots (Machine.outputSlot psg (waveOf s c)) n r).1.freqDist = (r.freqDist + n) % periodSlots r ∧
    ∀ k < n, (runSlots (Machine.outputSlot psg (waveOf s c)) n r).2[k]? =
      some (squareSampleAt r ((r.freqDist + (k + 1)) % periodSlots r)) := by
  induction n generalizing r with
  | zero => exact ⟨(Nat.mod_eq_of_lt h.phase).symm, nofun⟩
  | succ n ih =>
    obtain ⟨hphase, hsamples⟩ := ih h.next
    have hshift (k : Nat) : ((nextInTone r).freqDist + k) % periodSlots r = (r.freqDist + (k + 1)) % periodSlots r := by
      rw [nextInTone, Nat.mod_add_mod, Nat.add_assoc, Nat.add_comm 1 k]
    rw [runSlots_succ, h.outputSlot s hc]
    refine ⟨hphase.trans (hshift n), fun k hk => ?_⟩
    cases k with
    | zero => rfl
    | succ k =>
      exact (hsamples k (Nat.lt_of_succ_lt_succ hk)).trans (congrArg (some <| squareSampleAt r ·) (hshift (k + 1)))

end ConstantTone

/-- Settles O42: sample `k` is that of phase `k + 1` further modulo the period, so one period later it is the same. -/
theorem squareWaveformIsPeriodic : Obligations.SquareWaveformIsPeriodic := by
  intro n s c hc hplaying hduration henvelope hsweep hphase
  have htone : ConstantTone (chan s c) := ⟨hplaying, hduration, henvelope, hsweep, hphase⟩
  obtain ⟨hcount, hsamples⟩ := htone.runSlots s hc n.toNat
  refine ⟨_, _, exec_genOf s c n, stream_withEmitted _ _ _ _, ?_⟩
  rw [chan_withEmitted, chan_withChan, startOf_square s hc]
  refine ⟨hcount, fun k hk => ?_⟩
  rw [hsamples _ hk, hsamples k (Nat.lt_of_add_right_lt hk), Nat.add_right_comm k, ← Nat.add_assoc, Nat.add_mod_right]

end Sys2Proof.Machine
end

section
/-! The machine's natural-number arithmetic against the source's formulas in exact rationals (R8, R9): durations, the
period, the thresholds, the duty window, the samples, and from them whole requests. -/

namespace Sys2Proof.Machine

open Sys2Proof.Claims

section Quotients

variable (k m n : ℕ)

/-- The natural quotient is the floor of the rational one (R10). -/
theorem floor_natCast_div_toNat : ⌊(m : ℚ) / (n : ℚ)⌋.toNat = m / n := by
  rw [Rat.floor_natCast_div_natCast]
  rfl

/-- A rational threshold with a natural denominator, multiplied out. -/
theorem natCast_ge_div_iff (hn : 0 < n) : (k : ℚ) ≥ (m : ℚ) / (n : ℚ) ↔ m ≤ k * n := by
  rw [ge_iff_le, div_le_iff₀ (Nat.cast_pos.mpr hn)]
  exact_mod_cast Iff.rfl

end Quotients

/-- A duration in units of `1000 / 256` ms; the sentinel's 5000 ms are 1280 of them (R23). -/
def durationUnits : Duration → ℕ
  | .zero => 0
  | .indefinite => 1280
  | .finite k => k

theorem durationMs_eq (d : Duration) : Reference.durationMs d = 1000 * (durationUnits d : ℚ) / 256 := by
  match d with
  | .zero => norm_num [Reference.durationMs, durationUnits]
  | .indefinite => norm_num [Reference.durationMs, durationUnits]
  | .finite k =>
    rw [Reference.durationMs, durationUnits]
    exact div_div_eq_mul_div ..

/-- The model's note length is the source's (R155, R222). -/
theorem samples_eq_noteSamples (d : Duration) : Duration.samples psg d = Reference.noteSamples d := by
  have hms : Reference.durationMs d * Reference.sampleRate / 1000 =
      ((durationUnits d * 44100 : ℕ) : ℚ) / ((256 : ℕ) : ℚ) := by
    rw [durationMs_eq, Reference.sampleRate]
    push_cast
    ring
  rw [Reference.noteSamples, hms, floor_natCast_div_toNat]
  match d with
  | .zero | .indefinite | .finite _ => rfl

/-- A legal finite duration is neither 0 units nor as many as the sentinel (R23). -/
theorem finite_legal {k : ℕ} (h : (Duration.finite k).legal 256 = true) : 1 ≤ k ∧ k ≤ 256 := by
  simpa only [Duration.legal, Bool.and_eq_true, decide_eq_true_eq] using h

/-- Legal durations differ in their units (R23). -/
theorem durationUnits_injective {d e : Duration} (hd : d.legal 256 = true) (he : e.legal 256 = true)
    (h : durationUnits d = durationUnits e) : d = e := by
  match d, e with
  | .zero, .zero | .indefinite, .indefinite => rfl
  | .finite _, .finite _ => exact congrArg _ h
  | .finite k, .zero | .finite k, .indefinite =>
    obtain ⟨hpos, hle⟩ := finite_legal hd
    rw [durationUnits, durationUnits] at h
    omega
  | .zero, .finite k | .indefinite, .finite k =>
    obtain ⟨hpos, hle⟩ := finite_legal he
    rw [durationUnits, durationUnits] at h
    omega

/-- Settles O47: milliseconds are units by a factor. -/
theorem durationTagStandsForMilliseconds : Obligations.DurationTagStandsForMilliseconds := by
  refine ⟨samples_eq_noteSamples, fun d e hd he => ⟨fun h => durationUnits_injective hd he ?_, congrArg _⟩⟩
  rw [durationMs_eq, durationMs_eq] at h
  have h : (durationUnits d : ℚ) = durationUnits e := by linarith
  exact_mod_cast h

section Steps

variable (r : ChannelState)

/-- The period code in exact arithmetic (R11). -/
theorem periodCode_cast : (2048 : ℚ) - (r.rawFrequency.toNat : ℚ) = (r.periodCode : ℚ) :=
  (Nat.cast_sub r.rawFrequency.isLt.le).symm

/-- The period of a square channel in samples (R185). -/
theorem freqSamples_eq :
    Reference.freqSamples r.rawFrequency = ((44100 * r.periodCode : ℕ) : ℚ) / ((131072 : ℕ) : ℚ) := by
  have hpos : (r.periodCode : ℚ) ≠ 0 := Nat.cast_ne_zero.mpr (periodCode_pos r).ne'
  rw [Reference.freqSamples, Reference.frequency, periodCode_cast]
  push_cast
  field_simp
  norm_num

/-- The period of channel 3 in samples (R225). -/
theorem freqSamples3_eq :
    Reference.freqSamples3 r.rawFrequency = ((44100 * r.periodCode : ℕ) : ℚ) / ((65536 : ℕ) : ℚ) := by
  have hhalf : Reference.freqSamples3 r.rawFrequency = Reference.freqSamples r.rawFrequency * 2 := by
    rw [Reference.freqSamples3, Reference.frequency3, Reference.freqSamples, div_div_eq_mul_div, mul_div_right_comm]
  rw [hhalf, freqSamples_eq]
  push_cast
  ring

/-- The phase step with the period `44100 * P / scale` is the model's (R185, R225). -/
theorem phase_eq {scale : ℕ} (hscale : 0 < scale) :
    Reference.phase (((44100 * r.periodCode : ℕ) : ℚ) / (scale : ℚ)) r = phaseAdvance psg scale r := by
  have hwrap : (if ((r.freqDist + 1 : ℕ) : ℚ) ≥ ((44100 * r.periodCode : ℕ) : ℚ) / (scale : ℚ) then 0
      else r.freqDist + 1) = (phaseAdvance psg scale r).freqDist :=
    if_congr (natCast_ge_div_iff _ _ _ hscale) rfl rfl
  exact congrArg (fun f => { r with freqDist := f }) hwrap

/-- The amount of a sweep adjustment is the model's (R188). -/
theorem sweepAmount_eq : Reference.sweepAmount r = sweepDelta psg r := by
  rw [sweepDelta_psg, Reference.sweepAmount, Claims.sweepAmount, ← floor_natCast_div_toNat, Nat.cast_pow,
    Nat.cast_ofNat]

theorem one_le_toNat_iff (b : BitVec 3) : b.toNat ≥ 1 ↔ b ≠ 0#3 := by
  rw [ge_iff_le, Nat.one_le_iff_ne_zero, ne_eq, ne_eq, ← BitVec.toNat_inj]
  rfl

/-- The sweep's threshold (R187). -/
theorem sweepThreshold_iff :
    ((r.sweepCounter + 1 : ℕ) : ℚ) ≥ Reference.sampleRate / 128 * (r.sweepTime.toNat : ℚ) ↔ sweepDue psg r = true := by
  have h : Reference.sampleRate / 128 * (r.sweepTime.toNat : ℚ) =
      ((44100 * r.sweepTime.toNat : ℕ) : ℚ) / ((128 : ℕ) : ℚ) := by
    rw [Reference.sampleRate]
    push_cast
    ring
  rw [h, natCast_ge_div_iff _ _ _ (by decide), sweepDue_iff, psg_sr]

/-- The envelope's threshold (R189). -/
theorem envelopeThreshold_iff :
    ((r.envelopeCounter + 1 : ℕ) : ℚ) ≥ Reference.sampleRate / 64 * (r.envelopeStep.toNat : ℚ) ↔
      envelopeDue psg r = true := by
  have h : Reference.sampleRate / 64 * (r.envelopeStep.toNat : ℚ) =
      ((44100 * r.envelopeStep.toNat : ℕ) : ℚ) / ((64 : ℕ) : ℚ) := by
    rw [Reference.sampleRate]
    push_cast
    ring
  rw [h, natCast_ge_div_iff _ _ _ (by decide), envelopeDue_iff, psg_sr]

/-- The sweep step is the model's (R187, R188). -/
theorem sweep_eq : Reference.sweep r = sweepTick psg r := by
  have hover := sweepOverflows_iff psg r
  rw [Reference.sweep]
  simp only [one_le_toNat_iff, sweepThreshold_iff, sweepAmount_eq, ge_iff_le, ← hover]
  obtain ⟨htime, h⟩ | ⟨htime, hdue, h⟩ | ⟨htime, hdue, hup, hover, h⟩ | ⟨htime, hdue, hup, hover, h⟩ |
    ⟨htime, hdue, hdown, h⟩ := sweepTick_cases psg r <;> rw [h]
  · simp [htime]
  · simp [htime, hdue]
  · simp [htime, hdue, hup, hover]
  · simp [htime, hdue, hup, hover]
  · simp [htime, hdue, hdown]

/-- The envelope step is the model's (R189, R190). -/
theorem envelope_eq : Reference.envelope r = envelopeTick psg r := by
  rw [Reference.envelope]
  simp only [one_le_toNat_iff, envelopeThreshold_iff]
  obtain ⟨hstep, h⟩ | ⟨hstep, hdue, h⟩ | ⟨hstep, hdue, h⟩ := envelopeTick_cases psg r <;> rw [h]
  · simp [hstep]
  · simp [hstep, hdue]
  · simp [hstep, hdue, envelopeEvent]

/-- A bound of the duty window (R192). -/
theorem dutyBound_eq (n : ℕ) : Reference.freqSamples r.rawFrequency / 8 * (n : ℚ) =
    ((44100 * P r * n : ℕ) : ℚ) / ((2 ^ 20 : ℕ) : ℚ) := by
  have hperiod : P r = r.periodCode := rfl
  rw [freqSamples_eq, hperiod]
  push_cast
  ring

/-- The source's amplitude (R193). -/
theorem floor_amplitude (v : ℕ) : ⌊(32767 : ℚ) / 16 * (v : ℚ)⌋ = ((32767 * v / 16 : ℕ) : ℤ) := by
  have h : (32767 : ℚ) / 16 * (v : ℚ) = ((32767 * v : ℕ) : ℚ) / ((16 : ℕ) : ℚ) := by
    push_cast
    ring
  rw [h, Rat.floor_natCast_div_natCast]
  rfl

/-- The sample of a square channel is the source's value (R192, R193). -/
theorem squareValue_eq : Reference.squareValue r = (squareSample psg r).toInt := by
  have hstart := natCast_ge_div_iff r.freqDist (44100 * P r * r.dutyStart.toNat) (2 ^ 20) (by decide)
  have hend := natCast_ge_div_iff r.freqDist (44100 * P r * r.dutyEnd.toNat) (2 ^ 20) (by decide)
  rw [Reference.squareValue, squareSample_toInt, floor_amplitude, dutyBound_eq, dutyBound_eq]
  refine if_congr (and_congr hstart (and_congr ?_ Iff.rfl)) rfl rfl
  rw [← not_le, ← not_le]
  exact not_congr hend

/-- The sample of channel 3 is the source's value (R226 to R228). -/
theorem waveValue_eq (table : Nat → Byte) : Reference.waveValue table r =
    (waveSample psg r.waveShift (nibble (waveIndex psg r) (table (waveIndex psg r / 2)))).toInt := by
  have hpointer : (⌊(r.freqDist : ℚ) / Reference.waveStep r.rawFrequency⌋ % 32).toNat = waveIndex psg r := by
    rw [floor_div_waveStep, Int.toNat_emod (Int.natCast_nonneg _) (by decide), Int.toNat_natCast, waveIndex, psg_sr]
    rfl
  rw [Reference.waveValue, waveSample_toInt, nibble_toNat, Nat.shiftRight_eq_div_pow]
  simp only [hpointer]
  ring

end Steps

section Runs

/-- A slot of the source against one of the model: equal records, and the value the sample stands for. -/
def SlotMeets (one : ChannelState → ChannelState × ℤ) (slot : ChannelState → ChannelState × Sample) : Prop :=
  ∀ r, one r = ((slot r).1, (slot r).2.toInt)

theorem SlotMeets.slots {one : ChannelState → ChannelState × ℤ} {slot : ChannelState → ChannelState × Sample}
    (h : SlotMeets one slot) (n : ℕ) (r : ChannelState) :
    Reference.slots one n r = ((runSlots slot n r).1, (runSlots slot n r).2.map BitVec.toInt) := by
  induction n generalizing r with
  | zero => rfl
  | succ n ih => rw [Reference.slots, runSlots_succ, h, ih]; rfl

/-- The frame of a slot is the source's: off, the end of a finite note, or a waveform slot that agrees (R182 to
R184). -/
theorem slotMeets_of_wave {steps : ChannelState → ChannelState} {value : ChannelState → ℤ}
    {wave : ChannelState → ChannelState × Sample} (hsteps : ∀ r, steps r = (wave r).1)
    (hvalue : ∀ r, value (wave r).1 = (wave r).2.toInt) :
    SlotMeets (Reference.slot steps value) (outputSlot psg wave) := by
  intro r
  have hended := noteEnded_eq_true r
  have hreload : reloadLength psg r =
      if r.sampleLength = 0 then { r with sampleLength := Reference.noteSamples .indefinite } else r := by
    rw [reloadLength, samples_eq_noteSamples]
    split <;> rfl
  rw [Reference.slot]
  obtain ⟨hoff, h⟩ | ⟨hplaying, hend, h⟩ | ⟨hplaying, hgoes, h⟩ := outputSlot_cases psg wave r <;> rw [h]
  · rw [if_pos hoff, silence_toInt]
  · rw [if_neg (by simp [hplaying]), if_pos (hended.mp hend), silence_toInt]
    rfl
  · rw [if_neg (by simp [hplaying]), if_neg (mt hended.mpr (by simp [hgoes])), ← hreload]
    simp only [hsteps, hvalue]
    rfl

end Runs

theorem slot1_meets : SlotMeets Reference.slot1 (outputSlot psg (waveSlot1 psg)) :=
  slotMeets_of_wave
    (fun r => by rw [freqSamples_eq, phase_eq r (by decide), sweep_eq, envelope_eq]; rfl) (fun _ => squareValue_eq _)

theorem slot2_meets : SlotMeets Reference.slot2 (outputSlot psg (waveSlot2 psg)) :=
  slotMeets_of_wave
    (fun r => by rw [freqSamples_eq, phase_eq r (by decide), envelope_eq]; rfl) (fun _ => squareValue_eq _)

theorem slot3_meets (table : Nat → Byte) :
    SlotMeets (Reference.slot3 table) (outputSlot psg (waveSlot3 psg table)) :=
  slotMeets_of_wave (fun r => by rw [freqSamples3_eq, phase_eq r (by decide)]; rfl) (fun _ => waveValue_eq _ table)

/-- Settles O45: each slot of `GEN1` and `GEN2` meets its formulas, so a request of any length does. -/
theorem squareGeneratorsMeetRationalFormulas : Obligations.SquareGeneratorsMeetRationalFormulas := by
  refine ⟨fun n s => ?_, fun n s => ?_⟩
  · rw [slot1_meets.slots]
    exact ⟨_, rfl, rfl⟩
  · rw [slot2_meets.slots]
    exact ⟨_, rfl, rfl⟩

/-- Settles O46: each slot of `GEN3` over the store's wave bytes meets its formulas. -/
theorem waveGeneratorMeetsRationalFormulas : Obligations.WaveGeneratorMeetsRationalFormulas := by
  intro n s r hstart
  have htable : (fun j => s.memRead (BitVec.ofNat 16 (0xFF30 + j))) = s.waveByte :=
    funext fun j => (waveByte_eq_memRead s j).symm
  rw [htable, (slot3_meets s.waveByte).slots]
  refine ⟨_, (exec_genOf s 2 n).trans ?_, rfl⟩
  rw [startOf_of_startsFrom hstart]
  rfl

end Sys2Proof.Machine
end

section
/-! `playing` (R25): what switches a channel on and what switches it off. -/

namespace Sys2Proof.Machine

open Sys2Proof.Claims

/-- The audio backend issues `GEN` and the three one-channel requests (R250). -/
theorem request_of_backend {i : Instr} (h : i.issuer = some .backend) : (∃ n, i = .gen n) ∨ ∃ d n, i = genOf d n := by
  cases i
  case gen n => exact .inl ⟨n, rfl⟩
  case gen1 n => exact .inr ⟨0, n, rfl⟩
  case gen2 n => exact .inr ⟨1, n, rfl⟩
  case gen3 n => exact .inr ⟨2, n, rfl⟩
  all_goals cases h

/-- `GEN` is the three requests in a row (R181). -/
theorem requests_of_exec_gen {n : BitVec 16} {s v : State} (h : exec (.gen n) s = .next v) :
    ∃ t u, exec (genOf 0 n) s = .next t ∧ exec (genOf 1 n) t = .next u ∧ exec (genOf 2 n) u = .next v := by
  cases h
  exact ⟨_, _, rfl, rfl, rfl⟩

theorem chan_withChan_ne (s : State) {c d : Fin 3} (r : ChannelState) (h : c ≠ d) :
    chan (withChan s d r) c = chan s c :=
  match c, d with
  | 0, 1 | 0, 2 | 1, 0 | 1, 2 | 2, 0 | 2, 1 => rfl
  | 0, 0 | 1, 1 | 2, 2 => absurd rfl h

theorem chan_withEmitted_any (s : State) (c d : Fin 3) (vs : List Sample) : chan (withEmitted s d vs) c = chan s c :=
  match c, d with
  | 0, 0 | 0, 1 | 0, 2 | 1, 0 | 1, 1 | 1, 2 | 2, 0 | 2, 1 | 2, 2 => rfl

/-- A request writes its own channel's record only (R181). -/
theorem exec_genOf_chan_ne {s t : State} {c d : Fin 3} {n : BitVec 16} (h : exec (genOf d n) s = .next t)
    (hne : c ≠ d) : chan t c = chan s c := by
  cases (exec_genOf s d n).symm.trans h
  rw [chan_withEmitted_any, chan_withChan_ne _ _ hne]

/-- No request switches a channel on (R182, R223). -/
theorem exec_genOf_off {s t : State} {c d : Fin 3} {n : BitVec 16} (h : exec (genOf d n) s = .next t)
    (hoff : (chan s c).playing = false) : (chan t c).playing = false := by
  by_cases hcd : c = d
  · subst hcd
    cases (offChannelEmitsSilence n s c hoff).symm.trans h
    rwa [chan_withEmitted]
  · rwa [exec_genOf_chan_ne h hcd]

/-- A handler leaves `playing` of a channel, or it is that channel's trigger, fires, and sets it (R153). -/
theorem exec_handler_playing {i : Instr} {s t : State} (c : Fin 3) (hissuer : i.issuer = none)
    (h : exec i s = .next t) :
    (chan t c).playing = (chan s c).playing ∨ (i = trigOf c ∧ Fires s c ∧ (chan t c).playing = true) := by
  obtain rfl | ⟨r, -, hplaying, rfl⟩ | ⟨d, r, hi, hfires, hplaying, rfl⟩ := exec_handler_cases hissuer h
  · exact .inl rfl
  · match c with
    | 0 => exact .inl hplaying
    | 1 | 2 => exact .inl rfl
  · by_cases hcd : c = d
    · subst hcd
      rw [chan_withChan]
      exact .inr ⟨hi, hfires, hplaying⟩
    · rw [chan_withChan_ne _ _ hcd]
      exact .inl rfl

/-- Outside the requests `playing` of a channel changes only by its trigger firing, alone or through `POLL` (R25). -/
theorem exec_playing_of_not_backend {i : Instr} {s t : State} (c : Fin 3) (hissuer : i.issuer ≠ some .backend)
    (h : exec i s = .next t) : (chan t c).playing = (chan s c).playing ∨
      ((i = trigOf c ∨ (i = .poll ∧ s.pend = true ∧ s.pendAddr = fhiOf c)) ∧ Fires s c ∧
        (chan t c).playing = true) := by
  obtain ⟨hw, -⟩ | rfl | ⟨-, -, hbackend⟩ | ⟨-, hnone⟩ := instr_cases i
  · obtain ⟨a, d, hi⟩ := exec_isWrite hw
    cases (hi s).symm.trans h
    match c with
    | 0 | 1 | 2 => exact .inl rfl
  · obtain ⟨hpend, h'⟩ | ⟨-, h'⟩ := execPoll_cases s
    · have hconsume : chan s.consume c = chan s c := match c with | 0 | 1 | 2 => rfl
      obtain hsame | ⟨hroute, hfires, hon⟩ :=
        exec_handler_playing (s := s.consume) c (decodeDispatch_kind _).2 (h'.symm.trans h)
      · exact .inl (hconsume ▸ hsame)
      · exact .inr ⟨.inr ⟨rfl, hpend, fhiOf_of_decodeDispatch hroute⟩, hfires, hon⟩
    · cases h'.symm.trans h
      exact .inl rfl
  · exact absurd hbackend hissuer
  · exact (exec_handler_playing c hnone h).imp_right fun ⟨hi, hfires, hon⟩ => ⟨.inl hi, hfires, hon⟩

/-- A waveform slot stops its channel exactly by a sweep overflow of channel 1 (R188). -/
theorem waveOf_playing (s : State) (c : Fin 3) {r : ChannelState} (hplaying : r.playing = true) :
    (waveOf s c r).1.playing = false ↔ c = 0 ∧ Overflows r := by
  match c with
  | 0 =>
    obtain ⟨hkeeps, -⟩ := envelopeTick_fields psg (sweepTick psg (phaseAdvance psg 131072 r))
    have hslot : (waveOf s 0 r).1.playing = (sweepTick psg (phaseAdvance psg 131072 r)).playing := hkeeps
    obtain ⟨hnot, ht⟩ | ⟨hover, ht⟩ | ⟨-, -, hbelow, ht⟩ | ⟨-, hdown, ht⟩ :=
      sweepTick_due_cases (phaseAdvance psg 131072 r) <;> rw [hslot, ht]
    · exact iff_of_false (ne_false_of_eq_true hplaying) fun h => hnot h.2.1
    · exact iff_of_true rfl ⟨rfl, hover⟩
    · exact iff_of_false (ne_false_of_eq_true hplaying) fun h => absurd hbelow (Nat.not_lt_of_le h.2.2.2)
    · exact iff_of_false (ne_false_of_eq_true hplaying) fun h => Bool.noConfusion (h.2.2.1.symm.trans hdown)
  | 1 =>
    obtain ⟨hkeeps, -⟩ := envelopeTick_fields psg (phaseAdvance psg 131072 r)
    exact iff_of_false (ne_false_of_eq_true (hkeeps.trans hplaying)) fun h => nomatch h.1
  | 2 => exact iff_of_false (ne_false_of_eq_true hplaying) fun h => nomatch h.1

/-- No operation of the audio backend switches a channel on. -/
theorem exec_backend_off {i : Instr} {s t : State} {c : Fin 3} (hissuer : i.issuer = some .backend)
    (h : exec i s = .next t) (hoff : (chan s c).playing = false) : (chan t c).playing = false := by
  obtain ⟨n, rfl⟩ | ⟨d, n, rfl⟩ := request_of_backend hissuer
  · obtain ⟨t1, t2, h1, h2, h3⟩ := requests_of_exec_gen h
    exact exec_genOf_off h3 (exec_genOf_off h2 (exec_genOf_off h1 hoff))
  · exact exec_genOf_off h hoff

/-- Settles O48: outside the requests only a firing trigger writes `playing`, a request switches only its own channel
off, and a slot does so at a note's end or, in the waveform part, by an overflow. -/
theorem playingChangesOnlyByTriggerAndGenerator : Obligations.PlayingChangesOnlyByTriggerAndGenerator := by
  refine ⟨fun c i s t h hoff hon => ?_, fun c i s t h hon hoff => ?_, fun c s r hstart hplaying => ?_⟩
  · by_cases hissuer : i.issuer = some .backend
    · exact Bool.noConfusion (hon.symm.trans (exec_backend_off hissuer h hoff))
    · obtain hsame | ⟨hi, hfires, -⟩ := exec_playing_of_not_backend c hissuer h
      · exact Bool.noConfusion (hon.symm.trans (hsame.trans hoff))
      · exact ⟨hi, hfires⟩
  · by_cases hissuer : i.issuer = some .backend
    · obtain ⟨n, rfl⟩ | ⟨d, n, rfl⟩ := request_of_backend hissuer
      · exact ⟨n, .inl rfl⟩
      · by_cases hcd : c = d
        · exact ⟨n, .inr (hcd ▸ rfl)⟩
        · rw [exec_genOf_chan_ne h hcd] at hoff
          exact Bool.noConfusion (hon.symm.trans hoff)
    · obtain hsame | ⟨-, -, hon'⟩ := exec_playing_of_not_backend c hissuer h
      · exact Bool.noConfusion (hoff.symm.trans (hsame.trans hon))
      · exact Bool.noConfusion (hoff.symm.trans hon')
  · by_cases hended : Ended r
    · have hon := (startsFrom_playing hstart).symm.trans hplaying
      have hexec := finiteNoteEndsSilently 1#16 s c r le_rfl hon hstart hended
      refine ⟨_, hexec, iff_of_true ?_ (.inl hended)⟩
      rw [chan_withEmitted, chan_withChan]
    · refine ⟨_, exec_genOf_one hstart ⟨hplaying, hended⟩, ?_⟩
      rw [chan_withEmitted, chan_withChan, countDown_playing, waveOf_playing s c (r := reloadLength psg r) hplaying]
      exact ⟨fun ⟨hc, hover⟩ => .inr ⟨hc, hended, hover⟩, fun h => (h.resolve_left hended).imp_right And.right⟩

end Sys2Proof.Machine
end

section
/-! What each operation reads of the store (R61): two stores that agree there give the same result. -/

namespace Sys2Proof.Machine

open Sys2Proof.Claims

/-- The state with another register store. -/
abbrev withStore (s : State) (m : Memory) : State := { s with store := m }

/-- Another store that reads the same at the addresses of a list. -/
abbrev AgreesOn (s : State) (m : Memory) (as : List Addr) : Prop := ∀ a ∈ as, (withStore s m).memRead a = s.memRead a

/-- The fire condition reads `OUT_SEL` and the channel's frequency-high register (R152). -/
theorem fires_withStore {s : State} {m : Memory} {c : Fin 3}
    (hsel : (withStore s m).memRead 0xFF25#16 = s.memRead 0xFF25#16)
    (hfhi : (withStore s m).memRead (fhiOf c) = s.memRead (fhiOf c)) : Fires (withStore s m) c ↔ Fires s c := by
  simp only [Fires, byteAt, hsel, hfhi]

/-- What a firing trigger latches it latches from the registers listed for it. -/
theorem latchOf_withStore {s : State} {m : Memory} {c : Fin 3} (hf : Fires s c)
    (h : AgreesOn s m (subReads s (trigOf c))) : latchOf (withStore s m) c = latchOf s c := by
  match c with
  | 0 =>
    simp only [AgreesOn, trigOf, subReads, if_pos hf, List.forall_mem_cons] at h
    obtain ⟨-, hfhi, hduty, hflo, henv, hsweep, -⟩ := h
    funext r
    rw [latchOf, hfhi, hduty, hflo, henv, hsweep, latchOf]
  | 1 =>
    simp only [AgreesOn, trigOf, subReads, if_pos hf, List.forall_mem_cons] at h
    obtain ⟨-, hfhi, hduty, hflo, henv, -⟩ := h
    funext r
    rw [latchOf, hfhi, hduty, hflo, henv, latchOf]
  | 2 => rfl

/-- Every trigger reads its two conditions (R61). -/
theorem conditions_mem_subReads (s : State) (c : Fin 3) :
    0xFF25#16 ∈ subReads s (trigOf c) ∧ fhiOf c ∈ subReads s (trigOf c) := by
  match c with
  | 0 | 1 => rw [trigOf, subReads]; split <;> exact ⟨by decide, by decide⟩
  | 2 => exact ⟨List.mem_cons_self, List.mem_cons_of_mem _ List.mem_cons_self⟩

/-- A trigger on two stores that agree where it reads: it fires on both and latches the same, or on neither. -/
theorem exec_trigOf_withStore {s t : State} {m : Memory} {c : Fin 3} (h : exec (trigOf c) s = .next t)
    (hm : AgreesOn s m (subReads s (trigOf c))) : exec (trigOf c) (withStore s m) = .next (withStore t m) := by
  obtain ⟨hsel, hfhi⟩ := conditions_mem_subReads s c
  have hiff := fires_withStore (hm _ hsel) (hm _ hfhi)
  by_cases hf : Fires s c
  · cases (exec_trigOf_of_fires hf).symm.trans h
    rw [exec_trigOf_of_fires (hiff.mpr hf), latchOf_withStore hf hm]
    match c with
    | 0 | 1 | 2 => rfl
  · cases (triggerNotFiringHasNoEffect s c hf).symm.trans h
    exact triggerNotFiringHasNoEffect _ c (mt hiff.mp hf)

/-- A waveform slot of channel 3 reads the sixteen bytes of the table (R226, R227). -/
theorem waveSlot3_congr {table table' : Nat → Byte} (h : ∀ j < 16, table j = table' j) :
    waveSlot3 psg table = waveSlot3 psg table' := by
  funext r
  have hj : waveIndex psg (phaseAdvance psg 65536 r) / 2 < 16 := by
    rw [waveIndex]
    omega
  rw [waveSlot3, waveSlot3, h _ hj]

/-- `GEN3` on two stores that agree on its registers and the wave table, or with the channel off on any two. -/
theorem exec_gen3_withStore {s t : State} {m : Memory} {n : BitVec 16} (h : exec (.gen3 n) s = .next t)
    (hm : AgreesOn s m (subReads s (.gen3 n))) : exec (.gen3 n) (withStore s m) = .next (withStore t m) := by
  cases hplaying : s.st2.playing with
  | false =>
    cases (offChannelEmitsSilence n s 2 hplaying).symm.trans h
    exact offChannelEmitsSilence n (withStore s m) 2 hplaying
  | true =>
    simp only [AgreesOn, subReads, if_pos hplaying, List.forall_mem_append, List.forall_mem_cons] at hm
    obtain ⟨⟨hfhi, hflo, hlen, hlevel, -⟩, htable⟩ := hm
    have hstart : startGen3 (withStore s m) = startGen3 s := by
      rw [startGen3, hfhi, hflo, hlen, hlevel, startGen3]
    have hwave : waveSlot3 psg (withStore s m).waveByte = waveSlot3 psg s.waveByte := waveSlot3_congr fun j hj => by
      rw [waveByte_eq_memRead, waveByte_eq_memRead]
      exact htable _ (List.mem_map.mpr ⟨j, List.mem_range.mpr hj, rfl⟩)
    cases h
    rw [exec, execGen3, runGen3, hstart, hwave]
    rfl

/-- Every operation but `POLL` and `WR` on two stores that agree where it reads. -/
theorem exec_withStore {i : Instr} {s t : State} {m : Memory} (hw : i.isWrite = false) (hp : i ≠ .poll)
    (h : exec i s = .next t) (hm : AgreesOn s m (subReads s i)) : exec i (withStore s m) = .next (withStore t m) := by
  cases i
  case poll => exact absurd rfl hp
  case gen n =>
    obtain ⟨t1, t2, h1, h2, h3⟩ := requests_of_exec_gen h
    cases h1
    cases h2
    exact exec_gen_of_requests rfl rfl (exec_gen3_withStore h3 hm)
  case gen1 n | gen2 n | live1Sweep | live1Duty | noroute => cases h; rfl
  case gen3 n => exact exec_gen3_withStore h hm
  case trig1 => exact exec_trigOf_withStore (c := 0) h hm
  case trig2 => exact exec_trigOf_withStore (c := 1) h hm
  case trig3 => exact exec_trigOf_withStore (c := 2) h hm
  case live1Env =>
    have henv : (withStore s m).memRead Reg.ch1Env = s.memRead Reg.ch1Env := hm _ List.mem_cons_self
    obtain ⟨hzero, hfield, h'⟩ | ⟨hidle, h'⟩ := execLive1Env_cases s <;> cases h'.symm.trans h <;>
      rw [exec, execLive1Env, henv]
    · exact congrArg Host.Outcome.next (if_pos ⟨hzero, hfield⟩)
    · exact congrArg Host.Outcome.next (if_neg hidle)
  case live1Flo =>
    obtain ⟨hactive, h'⟩ | ⟨hzero, h'⟩ := execLive1Flo_cases s <;> cases h'.symm.trans h
    · rw [subReads, if_neg hactive] at hm
      have hflo : (withStore s m).memRead Reg.ch1Flo = s.memRead Reg.ch1Flo := hm _ List.mem_cons_self
      rw [exec, execLive1Flo, if_pos hactive, hflo]
      rfl
    · exact congrArg Host.Outcome.next (if_neg fun hactive => hactive hzero)
  all_goals cases hw

/-- Consuming the update changes nothing a handler reads. -/
theorem subReads_consume (s : State) (i : Instr) : subReads s.consume i = subReads s i := by
  cases i <;> rfl

/-- `POLL` on two stores that agree where its handler reads (R61). -/
theorem exec_poll_withStore {s t : State} {m : Memory} (h : exec .poll s = .next t)
    (hm : AgreesOn s m (reads s .poll)) : exec .poll (withStore s m) = .next (withStore t m) := by
  obtain ⟨hpend, h'⟩ | ⟨hclear, h'⟩ := execPoll_cases s
  · rw [reads, if_pos hpend, ← subReads_consume] at hm
    exact (exec_poll_of_pending (s := withStore s m) hpend).trans
      (exec_withStore (s := s.consume) (decodeDispatch_kind _).1 (decodeDispatch_ne_poll _) (h'.symm.trans h) hm)
  · cases h'.symm.trans h
    exact exec_poll_of_not_pending hclear

/-- Settles O51: each operation reads the store through the addresses listed for it. -/
theorem operationsReadOnlyTheirRegisters : Obligations.OperationsReadOnlyTheirRegisters := by
  refine ⟨fun _ _ _ h hw => exec_store hw h, fun i s t m h hw hm => ?_⟩
  by_cases hp : i = .poll
  · subst hp
    exact exec_poll_withStore h hm
  · have hreads : reads s i = subReads s i := by
      cases i
      case poll => exact absurd rfl hp
      all_goals rfl
    exact exec_withStore hw hp h (hreads ▸ hm)

end Sys2Proof.Machine
end

section
/-! The notes among the pseudo-operations (R119): the two writes and the two polls of `NOTE1`, `NOTE2` and `NOTE3`. -/

namespace Sys2Proof.Machine

open Sys2Proof.Claims

/-- The frequency-high byte of a note: the trigger bit, the continuous flag and the code's high bits (R105, R119). -/
theorem noteHighByte_toNat (f : BitVec 11) (fin : BitVec 1) :
    (noteHighByte f fin).toNat = 128 + fin.toNat * 64 + f.toNat / 256 := by
  have hf := f.isLt
  have hfin := fin.isLt
  simp only [noteHighByte, append_toNat, extract_toNat, BitVec.toNat_ofNat]
  omega

/-- The two bytes of a note give its code back (R65). -/
theorem frequencyCode_note (f : BitVec 11) (fin : BitVec 1) :
    frequencyCode (noteHighByte f fin) (f.extractLsb' 0 8) = f := by
  have hf := f.isLt
  apply BitVec.eq_of_toNat_eq
  rw [frequencyCode_toNat, noteHighByte_toNat, extract_toNat]
  omega

/-- `fin` is the continuous flag: the note is indefinite exactly if it is clear (R155). -/
theorem squareDuration_note (duty : Byte) (f : BitVec 11) (fin : BitVec 1) :
    squareDuration duty (noteHighByte f fin) = .indefinite ↔ fin = 0#1 := by
  have hf := f.isLt
  have hflag : (noteHighByte f fin).toNat / 64 % 2 = fin.toNat := by
    rw [noteHighByte_toNat]
    omega
  match fin with
  | 0#1 => exact iff_of_true (squareDuration_indefinite duty _ hflag) rfl
  | 1#1 => exact iff_of_false (by rw [squareDuration_finite duty _ hflag]; exact nofun) nofun

/-- The state the handler of a channel's trigger runs in after a `WR` of the frequency-high register (R131). -/
def atTrigger (s : State) (c : Fin 3) (hi : Byte) : State := ((s.memWrite (fhiOf c) hi).signal (fhiOf c)).consume

theorem atTrigger_memRead (s : State) (c : Fin 3) (hi : Byte) (b : Addr) :
    (atTrigger s c hi).memRead b = if b = fhiOf c then hi else s.memRead b :=
  State.memRead_memWrite s (fhiOf c) b hi

theorem outSel_ne_fhiOf (c : Fin 3) : 0xFF25#16 ≠ fhiOf c := by
  revert c
  decide

/-- The `POLL` after a `WR` of a frequency-high byte with the trigger bit runs a trigger that fires if the channel is
enabled. -/
theorem exec_poll_atTrigger {s : State} {c : Fin 3} {hi : Byte}
    (hon : byteAt s 0xFF25#16 / 2 ^ c.val % 2 = 1 ∨ byteAt s 0xFF25#16 / 2 ^ (c.val + 4) % 2 = 1)
    (htrigger : hi.toNat / 128 = 1) :
    exec .poll ((s.memWrite (fhiOf c) hi).signal (fhiOf c)) =
      .next (withChan (atTrigger s c hi) c (latchOf (atTrigger s c hi) c (chan (atTrigger s c hi) c))) := by
  have hroute : decodeDispatch (fhiOf c) = trigOf c := match c with | 0 | 1 | 2 => rfl
  have hfires : Fires (atTrigger s c hi) c := by
    simpa only [Fires, byteAt, atTrigger_memRead, if_neg (outSel_ne_fhiOf c), if_pos] using ⟨hon, htrigger⟩
  rw [exec_poll_of_pending rfl, State.signal_pendAddr, hroute]
  exact exec_trigOf_of_fires hfires

/-- A write of the frequency-low register, the poll that consumes it, a write of the frequency-high register with the
trigger bit, and the poll that runs the trigger: an enabled channel ends with what the trigger latches from a store that
holds both bytes. -/
theorem runAll_note (s : State) (c : Fin 3) {a : Addr} (lo : Byte) {hi : Byte} (hsel : a ≠ 0xFF25#16)
    (hne : a ≠ fhiOf c)
    (hon : byteAt s 0xFF25#16 / 2 ^ c.val % 2 = 1 ∨ byteAt s 0xFF25#16 / 2 ^ (c.val + 4) % 2 = 1)
    (htrigger : hi.toNat / 128 = 1) :
    ∃ u t, runAll [wr a lo, .poll, wr (fhiOf c) hi, .poll] s = some t ∧ u.memRead a = lo ∧ u.memRead (fhiOf c) = hi ∧
      t.pend = false ∧ chan t c = latchOf u c (chan u c) := by
  obtain ⟨s2, h2, -⟩ := exec_poll_slot ((s.memWrite a lo).signal a)
  have hread (b : Addr) : s2.memRead b = if b = a then lo else s.memRead b := by
    rw [State.memRead, exec_store rfl h2]
    exact State.memRead_memWrite s a b lo
  have hon2 : byteAt s2 0xFF25#16 / 2 ^ c.val % 2 = 1 ∨ byteAt s2 0xFF25#16 / 2 ^ (c.val + 4) % 2 = 1 := by
    rwa [byteAt, hread, if_neg hsel.symm]
  have h4 := exec_poll_atTrigger (s := s2) (hi := hi) hon2 htrigger
  refine ⟨atTrigger s2 c hi,
    withChan (atTrigger s2 c hi) c (latchOf (atTrigger s2 c hi) c (chan (atTrigger s2 c hi) c)),
    ?_, ?_, ?_, ?_, chan_withChan _ _ _⟩
  · simp only [runAll, exec_decodeWrite, writeRegister_eq, h2, h4]
  · rw [atTrigger_memRead, if_neg hne, hread, if_pos rfl]
  · rw [atTrigger_memRead, if_pos rfl]
  · match c with
    | 0 | 1 | 2 => rfl

/-- The frequency-low register of channel `c + 1` (R40). -/
def floOf : Fin 3 → Addr
  | 0 => Reg.ch1Flo
  | 1 => Reg.ch2Flo
  | 2 => Reg.ch3Flo

theorem floOf_ne (c : Fin 3) : floOf c ≠ 0xFF25#16 ∧ floOf c ≠ fhiOf c := by
  revert c
  decide

/-- What a firing trigger latches of a note: it starts at phase 0, and a square channel takes code and duration from its
frequency registers (R153, R155, R156, R162). -/
theorem latchOf_note (u : State) (c : Fin 3) (r : ChannelState) :
    (latchOf u c r).playing = true ∧ (latchOf u c r).freqDist = 0 ∧
    (c ≠ 2 → (latchOf u c r).rawFrequency = frequencyCode (u.memRead (fhiOf c)) (u.memRead (floOf c)) ∧
      ∃ duty, (latchOf u c r).duration = squareDuration duty (u.memRead (fhiOf c))) :=
  match c with
  | 0 | 1 => ⟨rfl, rfl, fun _ => ⟨rfl, _, rfl⟩⟩
  | 2 => ⟨rfl, rfl, fun hc => absurd rfl hc⟩

/-- Settles O59: each note is such a run, and what its trigger latches is the note's. -/
theorem notesStartTheirChannel : Obligations.NotesStartTheirChannel := by
  intro f fin s c hon
  have htrigger : (noteHighByte f fin).toNat / 128 = 1 := by
    have hf := f.isLt
    have hfin := fin.isLt
    rw [noteHighByte_toNat]
    omega
  obtain ⟨hsel, hne⟩ := floOf_ne c
  obtain ⟨u, t, hrun, hlo, hhi, hpend, hlatch⟩ := runAll_note s c (f.extractLsb' 0 8) hsel hne hon htrigger
  obtain ⟨hplaying, hphase, hlatched⟩ := latchOf_note u c (chan u c)
  rw [hlo, hhi, frequencyCode_note, ← hlatch] at hlatched
  rw [← hlatch] at hplaying hphase
  refine ⟨t, ?_, hplaying, hphase, fun hc => (hlatched hc).1, fun hc => ?_, hpend⟩
  · match c with
    | 0 | 1 | 2 => exact hrun
  · obtain ⟨-, duty, hduration⟩ := hlatched hc
    rw [hduration, squareDuration_note]

end Sys2Proof.Machine
end
